-- ==== Sys2Proof/Word.lean ====
section
/-! DEFINITION. The bit-vector types of the block: bytes, 16-bit fields, command words, de-escape windows (R6, R69, R76). -/

namespace Sys2Proof

/-- A wire byte, an accumulator element, a packet `type` (R6). -/
abbrev Byte := BitVec 8

/-- A header field `crc` or `len`, or the CRC register (R6). -/
abbrev Half := BitVec 16

/-- A command word (R69). -/
abbrev CmdWord := BitVec 11

/-- A de-escape window (R76). -/
abbrev Window := BitVec 17

end Sys2Proof
end

