-- ==== Sys2Proof/Syntax.lean ====
section
/-! DEFINITION. The instructions of the opcode map (R74 rows 1 to 13, R76 rows 14 to 19), the framer states that are the
context of its RX rows (R25), and the status codes of a result (R66). -/

namespace Sys2Proof

/-- The state of the receive framer (R25), the context in which an RX word is decoded (R74). -/
inductive FramerState where
  | hunt
  | frame
  | discard
deriving DecidableEq, Repr

/-- The outcome codes of a completed frame (R66). Codes 5 to 7 are never produced (R66, I8), so they have no constructor. -/
inductive Status where
  | ok
  | frameTooShort
  | crcMismatch
  | headerTruncated
  | frameTooLong
deriving DecidableEq, Repr, Inhabited

/-- One constructor per row of the opcode table. The operands are the bits of the word that the row leaves open (R72). -/
inductive Instr where
  /-- RX.HUNT.START, row 1 (R121): the byte START in HUNT. -/
  | rxHuntStart (eoc : Bool)
  /-- RX.HUNT.SKIP, row 2 (R122): any other byte in HUNT. -/
  | rxHuntSkip (eoc : Bool) (byte : Byte)
  /-- RX.FRAME.END, row 3 (R123): the byte END in FRAME. -/
  | rxFrameEnd (eoc : Bool)
  /-- RX.FRAME.DATA, row 4 (R124): any other byte in FRAME. -/
  | rxFrameData (eoc : Bool) (byte : Byte)
  /-- RX.DISCARD.LAST, row 5 (R126): the last byte of its chunk, in DISCARD. -/
  | rxDiscardLast (byte : Byte)
  /-- RX.DISCARD.DROP, row 6 (R125): any earlier byte of the chunk, in DISCARD. -/
  | rxDiscardDrop (byte : Byte)
  /-- TAKE, row 7 (R203). -/
  | take
  /-- RESET, row 8 (R260). -/
  | reset
  /-- TXD.END, row 9 (R101): the payload byte END. -/
  | txdEnd
  /-- TXD.ESC, row 10 (R102): the payload byte ESC. -/
  | txdEsc
  /-- TXD.START, row 11 (R103): the payload byte START. -/
  | txdStart
  /-- TXD.LIT, row 12 (R104): any other payload byte. -/
  | txdLit (byte : Byte)
  /-- TXE, row 13 (R105): end of the payload. -/
  | txe
  /-- DE.ESC_END, row 14 (R152): the window ESC, ESC_END. -/
  | deEscEnd
  /-- DE.ESC_ESC, row 15 (R153): the window ESC, ESC_ESC. -/
  | deEscEsc
  /-- DE.ESC_START, row 16 (R154): the window ESC, ESC_START. -/
  | deEscStart
  /-- DE.ESC_BAD, row 17 (R155): ESC before a byte that is no escape code. -/
  | deEscBad (next : Byte)
  /-- DE.ESC_TRAIL, row 18 (R156): ESC as the last raw byte. -/
  | deEscTrail
  /-- DE.LIT, row 19 (R151): a byte other than ESC, and the byte after it if there is one. -/
  | deLit (cur : Byte) (next : Option Byte)
deriving DecidableEq, Repr

end Sys2Proof
end

