-- ==== Sys2Proof/Config.lean ====
section
/-! DEFINITION. What an instance fixes (R5) and the free values (R27: a field a status does not carry holds no value the
spec fixes, and any read of it is a draw). -/

namespace Sys2Proof.Config

/-- `FRAME_MODE` (R5, D3). -/
inductive FrameMode where
  | allFrames
  | firstPerChunk
deriving DecidableEq, Repr

/-- `ESC_UNKNOWN_MODE` (R5, D5). -/
inductive EscUnknownMode where
  | dropEsc
  | dropPair
deriving DecidableEq, Repr

/-- The parameters of R5 that have more than one value. They are fixed for an instance and no operation changes them. -/
structure Params where
  /-- `CRC_INVERT`. -/
  crcInvert : Bool
  /-- `FRAME_MODE`. -/
  frameMode : FrameMode
  /-- `ESC_UNKNOWN_MODE`. -/
  escUnknownMode : EscUnknownMode
  /-- `MAX_RAW_LEN`, at least 1 (see `Params.wf`); OPEN in the spec (D4). -/
  maxRawLen : Nat
deriving DecidableEq, Repr

/-- `MAX_RAW_LEN` is at least 1 (R5). -/
def Params.wf (p : Params) : Bool := 1 ≤ p.maxRawLen

/-- This hardware's values (R5).
DESIGN CHOICE (unsafe, log 1): `maxRawLen` is OPEN; 326 is the least value that receives every in-scope packet (R21). -/
def thisHardware : Params where
  crcInvert := true
  frameMode := .allFrames
  escUnknownMode := .dropEsc
  maxRawLen := 326

/-- `HDR_LEN` (R5). -/
def hdrLen : Nat := 5

/-- `MIN_FRAME_LEN` (R5). -/
def minFrameLen : Nat := 3

/-- `CRC_POLY` (R5). -/
def crcPoly : Half := 0x1021#16

/-- `CRC_INIT_ARG` (R5). -/
def crcInitArg : Half := 0x0000#16

/-! Free values (R27, R202, D11; DESIGN CHOICE of form, safe, log 2): one per result field, applied to the draw counter
of State. They have no body, so no proof can rest on one. -/

/-- An unspecified `S.res.status`. -/
opaque freeStatus : Nat → Status

/-- An unspecified `S.res.type`. -/
opaque freeType : Nat → Byte

/-- An unspecified `S.res.crc_rx`. -/
opaque freeCrcRx : Nat → Half

/-- An unspecified `S.res.crc_calc`. -/
opaque freeCrcCalc : Nat → Half

/-- An unspecified `S.res.len`. -/
opaque freeLen : Nat → Half

/-- An unspecified `S.res.flen`, before it is brought into the field's range. -/
opaque freeFlen : Nat → Nat

/-- An unspecified `S.res.payload`, before it is cut to the field's range. -/
opaque freePayload : Nat → List Byte

end Sys2Proof.Config
end

