-- ==== Sys2Proof/Machine/Wire.lean ====
section
/-! DEFINITION. The byte values of the wire (R12, R60) and the escape code of each reserved byte (R63). -/

namespace Sys2Proof.Machine

/-- START, opens a frame (R60). -/
def startByte : Byte := 0x5A#8

/-- END, closes a frame (R60). -/
def endByte : Byte := 0xC0#8

/-- ESC, opens an escape sequence (R60). -/
def escByte : Byte := 0xDB#8

/-- ESC_END, the code that stands for END (R60). -/
def escEnd : Byte := 0xDC#8

/-- ESC_ESC, the code that stands for ESC (R60). -/
def escEsc : Byte := 0xDD#8

/-- ESC_START, the code that stands for START (R60). -/
def escStart : Byte := 0xDE#8

/-- START, END and ESC are the reserved bytes (R60). -/
def isReserved (b : Byte) : Bool := b = endByte || b = escByte || b = startByte

/-- The three escape codes (R60, R64). -/
def isEscCode (b : Byte) : Bool := b = escEnd || b = escEsc || b = escStart

end Sys2Proof.Machine
end

