-- ==== Sys2Proof/WellFormed.lean ====
section
/-! DEFINITION. Which terms of `Instr` a word can stand for: an operand byte that an earlier row of the map would take
(R74, R76: first match) is no operand of the later row. -/

namespace Sys2Proof

open Sys2Proof.Machine

/-- The operand checks, one per row that stands after a row with the same bits. -/
def Instr.wellFormed : Instr → Bool
  | .rxHuntStart _ => true
  | .rxHuntSkip _ byte => byte != startByte
  | .rxFrameEnd _ => true
  | .rxFrameData _ byte => byte != endByte
  | .rxDiscardLast _ => true
  | .rxDiscardDrop _ => true
  | .take => true
  | .reset => true
  | .txdEnd => true
  | .txdEsc => true
  | .txdStart => true
  | .txdLit byte => !isReserved byte
  | .txe => true
  | .deEscEnd => true
  | .deEscEsc => true
  | .deEscStart => true
  | .deEscBad next => !isEscCode next
  | .deEscTrail => true
  | .deLit cur _ => cur != escByte

end Sys2Proof
end

