-- ==== Sys2Proof/Decode.lean ====
section
/-! DEFINITION. The decoder of command words (R69 to R74) and of de-escape windows (R76), the encoder, and the opcode map
itself as a table of rows. -/

namespace Sys2Proof

open Sys2Proof.Machine

/-- Why a command word is reserved (R73). -/
inductive Reserved where
  /-- `0x202` to `0x3FF`: a CTL sub-code other than TAKE and RESET (R70). -/
  | ctl
  /-- `0x501` to `0x5FF`: a TX word with bit 8 set other than TXE (R71). -/
  | tx
  /-- `0x600` to `0x7FF`: group `11` (R69). -/
  | group
deriving DecidableEq, Repr

/-- `w[10:9]`, the operation group (R69). -/
def cmdGroup (w : CmdWord) : BitVec 2 := w.extractLsb' 9 2

/-- `w[8]`, which is `eoc` of an RX word (R69, R72). -/
def cmdBit8 (w : CmdWord) : Bool := w.getLsbD 8

/-- `w[7:0]`, which is `byte` of an RX or TXD word (R72). -/
def cmdByte (w : CmdWord) : Byte := w.extractLsb' 0 8

/-- A command word from its fields (R69 to R71). -/
def cmdWord (group : BitVec 2) (bit8 : Bool) (byte : Byte) : CmdWord :=
  group ++ BitVec.ofBool bit8 ++ byte

/-- An RX word in the framer state `ctx` (R75; rows 1 to 6 of R74). -/
def decodeRx (ctx : FramerState) (eoc : Bool) (byte : Byte) : Instr :=
  match ctx with
  | .hunt => if byte = startByte then .rxHuntStart eoc else .rxHuntSkip eoc byte
  | .frame => if byte = endByte then .rxFrameEnd eoc else .rxFrameData eoc byte
  | .discard => if eoc then .rxDiscardLast byte else .rxDiscardDrop byte

/-- A TXD word, by its payload byte (R71; rows 9 to 12 of R74). -/
def decodeTxd (byte : Byte) : Instr :=
  if byte = endByte then .txdEnd
  else if byte = escByte then .txdEsc
  else if byte = startByte then .txdStart
  else .txdLit byte

/-- The decoder of command words (R69 to R74), total: a word no row matches is reserved (R73), by name. -/
def decodeWord (ctx : FramerState) (w : CmdWord) : Except Reserved Instr :=
  if cmdGroup w = 0b00#2 then .ok (decodeRx ctx (cmdBit8 w) (cmdByte w))
  else if cmdGroup w = 0b01#2 then
    if cmdBit8 w = false ∧ cmdByte w = 0x00#8 then .ok .take
    else if cmdBit8 w = false ∧ cmdByte w = 0x01#8 then .ok .reset
    else .error .ctl
  else if cmdGroup w = 0b10#2 then
    if cmdBit8 w = false then .ok (decodeTxd (cmdByte w))
    else if cmdByte w = 0x00#8 then .ok .txe
    else .error .tx
  else .error .group

/-- `u[16:9]`, the raw byte at the scan's position (R76). -/
def winCur (u : Window) : Byte := u.extractLsb' 9 8

/-- `u[8]`, whether another raw byte follows (R76). -/
def winHasNext (u : Window) : Bool := u.getLsbD 8

/-- `u[7:0]`, the byte that follows, `0x00` where none does (R76). -/
def winNext (u : Window) : Byte := u.extractLsb' 0 8

/-- The window of a position (R76). -/
def window (cur : Byte) (next : Option Byte) : Window :=
  cur ++ BitVec.ofBool next.isSome ++ next.getD 0x00#8

/-- The decoder of de-escape windows (R76, rows 14 to 19), total: row 19 takes every window the others leave.
DEDUCED (safe, log 7): row 18 and, where `u[8] = 0`, row 19 do not look at `u[7:0]`, which R76 makes 0 there. -/
def decodeWindow (u : Window) : Instr :=
  if winCur u = escByte then
    if winHasNext u then
      if winNext u = escEnd then .deEscEnd
      else if winNext u = escEsc then .deEscEsc
      else if winNext u = escStart then .deEscStart
      else .deEscBad (winNext u)
    else .deEscTrail
  else .deLit (winCur u) (if winHasNext u then some (winNext u) else none)

/-- What an instruction is encoded as: a command word of R69 or a window of R76. -/
inductive Encoded where
  | cmd (w : CmdWord)
  | win (u : Window)
deriving DecidableEq, Repr

/-- The word of an instruction, from R69 to R71 and R76. -/
def encode : Instr → Encoded
  | .rxHuntStart eoc => .cmd (cmdWord 0b00#2 eoc startByte)
  | .rxHuntSkip eoc byte => .cmd (cmdWord 0b00#2 eoc byte)
  | .rxFrameEnd eoc => .cmd (cmdWord 0b00#2 eoc endByte)
  | .rxFrameData eoc byte => .cmd (cmdWord 0b00#2 eoc byte)
  | .rxDiscardLast byte => .cmd (cmdWord 0b00#2 true byte)
  | .rxDiscardDrop byte => .cmd (cmdWord 0b00#2 false byte)
  | .take => .cmd (cmdWord 0b01#2 false 0x00#8)
  | .reset => .cmd (cmdWord 0b01#2 false 0x01#8)
  | .txdEnd => .cmd (cmdWord 0b10#2 false endByte)
  | .txdEsc => .cmd (cmdWord 0b10#2 false escByte)
  | .txdStart => .cmd (cmdWord 0b10#2 false startByte)
  | .txdLit byte => .cmd (cmdWord 0b10#2 false byte)
  | .txe => .cmd (cmdWord 0b10#2 true 0x00#8)
  | .deEscEnd => .win (window escByte (some escEnd))
  | .deEscEsc => .win (window escByte (some escEsc))
  | .deEscStart => .win (window escByte (some escStart))
  | .deEscBad next => .win (window escByte (some next))
  | .deEscTrail => .win (window escByte none)
  | .deLit cur next => .win (window cur next)

/-- The decoder on either kind of word. A window has no context. -/
def decode (ctx : FramerState) : Encoded → Except Reserved Instr
  | .cmd w => decodeWord ctx w
  | .win u => .ok (decodeWindow u)

/-- The context column of R74: the framer state a row asks for, if it asks for one. -/
def Instr.context : Instr → Option FramerState
  | .rxHuntStart _ => some .hunt
  | .rxHuntSkip _ _ => some .hunt
  | .rxFrameEnd _ => some .frame
  | .rxFrameData _ _ => some .frame
  | .rxDiscardLast _ => some .discard
  | .rxDiscardDrop _ => some .discard
  | .take => none
  | .reset => none
  | .txdEnd => none
  | .txdEsc => none
  | .txdStart => none
  | .txdLit _ => none
  | .txe => none
  | .deEscEnd => none
  | .deEscEsc => none
  | .deEscStart => none
  | .deEscBad _ => none
  | .deEscTrail => none
  | .deLit _ _ => none

/-- The instruction stands in a row that applies in `ctx` (R74). -/
def Instr.inContext (i : Instr) (ctx : FramerState) : Bool :=
  i.context = none || i.context = some ctx

/-- The `#` column of R74 and R76. -/
def Instr.row : Instr → Nat
  | .rxHuntStart _ => 1
  | .rxHuntSkip _ _ => 2
  | .rxFrameEnd _ => 3
  | .rxFrameData _ _ => 4
  | .rxDiscardLast _ => 5
  | .rxDiscardDrop _ => 6
  | .take => 7
  | .reset => 8
  | .txdEnd => 9
  | .txdEsc => 10
  | .txdStart => 11
  | .txdLit _ => 12
  | .txe => 13
  | .deEscEnd => 14
  | .deEscEsc => 15
  | .deEscStart => 16
  | .deEscBad _ => 17
  | .deEscTrail => 18
  | .deLit _ _ => 19

/-- The six RX rows, the ones subject to the hold (R74, R120). -/
def Instr.isRx (i : Instr) : Bool := i.row ≤ 6

/-- Rows 9 to 13, the transmit operations. -/
def Instr.isTx (i : Instr) : Bool := 9 ≤ i.row && i.row ≤ 13

/-- Rows 14 to 19, the cases of the de-escaper (R76); the rows before them are operations (R68). -/
def Instr.isWindowCase (i : Instr) : Bool := 14 ≤ i.row

/-- A row of the opcode map: number, context, match and mask of `n`-bit words. -/
structure Row (n : Nat) where
  num : Nat
  context : Option FramerState
  pat : BitVec n
  mask : BitVec n
deriving DecidableEq, Repr

/-- `(w & mask) = match`, in the row's context (R74). -/
def Row.applies {n : Nat} (r : Row n) (ctx : FramerState) (w : BitVec n) : Bool :=
  (r.context = none || r.context = some ctx) && w &&& r.mask = r.pat

/-- The first 13 rows of the map, as R74 prints them. -/
def commandRows : List (Row 11) :=
  [⟨1, some .hunt, 0x05A#11, 0x6FF#11⟩, ⟨2, some .hunt, 0x000#11, 0x600#11⟩,
   ⟨3, some .frame, 0x0C0#11, 0x6FF#11⟩, ⟨4, some .frame, 0x000#11, 0x600#11⟩,
   ⟨5, some .discard, 0x100#11, 0x700#11⟩, ⟨6, some .discard, 0x000#11, 0x700#11⟩,
   ⟨7, none, 0x200#11, 0x7FF#11⟩, ⟨8, none, 0x201#11, 0x7FF#11⟩,
   ⟨9, none, 0x4C0#11, 0x7FF#11⟩, ⟨10, none, 0x4DB#11, 0x7FF#11⟩,
   ⟨11, none, 0x45A#11, 0x7FF#11⟩, ⟨12, none, 0x400#11, 0x700#11⟩,
   ⟨13, none, 0x500#11, 0x7FF#11⟩]

/-- Rows 14 to 19, as R76 prints them. -/
def windowRows : List (Row 17) :=
  [⟨14, none, 0x1B7DC#17, 0x1FFFF#17⟩, ⟨15, none, 0x1B7DD#17, 0x1FFFF#17⟩,
   ⟨16, none, 0x1B7DE#17, 0x1FFFF#17⟩, ⟨17, none, 0x1B700#17, 0x1FF00#17⟩,
   ⟨18, none, 0x1B600#17, 0x1FF00#17⟩, ⟨19, none, 0x00000#17, 0x00000#17⟩]

/-- The number of the first row that applies (R74). -/
def firstRow {n : Nat} (rows : List (Row n)) (ctx : FramerState) (w : BitVec n) : Option Nat :=
  (rows.find? (fun r => r.applies ctx w)).map Row.num

/-- What the decoder reads from a table row's bits. Up to two bytes are a command word, more are a window; a number too
wide for either is no instruction.
DEDUCED (safe, log 5): the table's RX rows depend on the framer state, and the state after reset is HUNT (R30). -/
def decodeTableWord (nbits w : Nat) : Option Instr :=
  if nbits ≤ 16 then
    if w < 2 ^ 11 then (decodeWord .hunt (BitVec.ofNat 11 w)).toOption else none
  else
    if w < 2 ^ 17 then some (decodeWindow (BitVec.ofNat 17 w)) else none

end Sys2Proof
end

