-- ==== Sys2Proof/Machine/State.lean ====
section
/-! DEFINITION. The state of one block instance (R20), its parameters, the agents' side (R34), the reasons a step can stop
(R243), and the state right after reset (R30, R265). -/

namespace Sys2Proof.Machine

open Sys2Proof.Config

/-- The result register `S.res` (R26). Which fields hold a value the spec fixes depends on `status` (R27). -/
structure Res where
  /-- 1 while a result waits for the consumer. -/
  valid : Bool
  /-- Outcome code (R66). -/
  status : Status
  /-- `type`, header byte 0. -/
  ptype : Byte
  /-- `crc_rx`, the CRC field read from the frame. -/
  crcRx : Half
  /-- `crc_calc`, the CRC the block computed. -/
  crcCalc : Half
  /-- `len`, header bytes 3-4. -/
  len : Half
  /-- `flen`, the length of the de-escaped frame. -/
  flen : Nat
  /-- `payload`, the bytes after the header. -/
  payload : List Byte
deriving DecidableEq, Repr

/-- A record all of whose fields but `valid` are unspecified (R27): free values, number `k` of the draw.
DESIGN CHOICE (safe, log 12): `flen` and `payload` stay within the ranges R26 gives the fields. -/
def Res.unspecified (p : Params) (k : Nat) (valid : Bool) : Res where
  valid := valid
  status := freeStatus k
  ptype := freeType k
  crcRx := freeCrcRx k
  crcCalc := freeCrcCalc k
  len := freeLen k
  flen := freeFlen k % (p.maxRawLen + 1)
  payload := (freePayload k).take (p.maxRawLen - hdrLen)

/-- Who moves in a step: the four agents of R34, and the model's own single-stepping of the de-escaper's scan (log 8). -/
inductive Turn where
  /-- The producer offers the front word of `producerQ`. -/
  | producer
  /-- The consumer issues the front word of `consumerQ`. -/
  | consumer
  /-- The client, or one party playing several roles (R34, R78), issues the front word of `clientQ`. -/
  | client
  /-- The wire sink takes the front byte of `txOut`. -/
  | wireSink
  /-- One window case of the scan of R150 over `deRaw`; no agent's step (log 8). -/
  | deescaper
deriving DecidableEq, Repr

/-- The whole machine. The fields down to `txOut` are the tuple of R20. -/
structure State where
  /-- `S.in_frame` (R22). -/
  inFrame : Bool
  /-- `S.acc`, the still-escaped bytes of the frame in flight (R21). -/
  acc : List Byte
  /-- `S.ovf` (R23). -/
  ovf : Bool
  /-- `S.discard` (R24). -/
  discard : Bool
  /-- `S.res` (R26). -/
  res : Res
  /-- `S.tx_open` (R28). -/
  txOpen : Bool
  /-- `S.tx_out`, oldest byte first (R29). -/
  txOut : List Byte
  /-- Whether the first RESET has been taken (R262; DEDUCED, log 3). -/
  resetDone : Bool
  /-- The parameters of R5, which no operation changes (log 1). -/
  params : Params
  /-- The model's own counter of free values (log 2). -/
  draws : Nat
  /-- The model's own working register of a single-stepped scan: the raw bytes from position `i` on (R150; log 8). -/
  deRaw : List Byte
  /-- The model's own working register of a single-stepped scan: `out` (R150; log 8). -/
  deOut : List Byte
  /-- The words the producer has still to issue, oldest first (R34, R266; log 4). -/
  producerQ : List CmdWord
  /-- The words the consumer has still to issue (log 4). -/
  consumerQ : List CmdWord
  /-- The words the client, or a party of several roles, has still to issue (R78; log 4). -/
  clientQ : List CmdWord
  /-- Who moves next, in order (R34, R235; log 4). -/
  turns : List Turn
  /-- The records the consumer read, in order (R273; log 9). -/
  taken : List Res
  /-- The bytes the wire sink took, in order (R272, R274; log 9). -/
  wire : List Byte
deriving DecidableEq, Repr

/-- The reasons the machine stops with a fault: none, because R243 says the block never faults (it has no trap). -/
inductive Fault where
deriving DecidableEq, Repr

/-- The reasons a step is refused. Each is safe: the model gives no step where the spec gives none (R243).
DESIGN CHOICE (safe, log 18): a refusal also ends the run, so that no other agent goes on; the spec leaves open whether they do. -/
inductive Refusal where
  /-- Raised by `exec` for an instruction of the table that has no meaning yet. Safe. No arm raises it in this model. -/
  | notModelled (mnemonic : String)
  /-- Raised by fetching a reserved command word (R73, V-REF-1): the spec's own refusal. Safe. -/
  | reservedWord (why : Reserved)
  /-- Raised by every operation but RESET before the first RESET (R262, V-REF-2): the spec's own refusal. Safe. -/
  | beforeReset
deriving DecidableEq, Repr

/-- The clean entry state (R265) of an instance with parameters `p`: right after power-on and one RESET, with nothing
offered by any agent. The unspecified fields of `res` are free values (R30; log 2). -/
def State.resetWith (p : Params) : State where
  inFrame := false
  acc := []
  ovf := false
  discard := false
  res := Res.unspecified p 0 false
  txOpen := false
  txOut := []
  resetDone := true
  params := p
  draws := 1
  deRaw := []
  deOut := []
  producerQ := []
  consumerQ := []
  clientQ := []
  turns := []
  taken := []
  wire := []

/-- The clean entry state (R265) of this hardware (R5). -/
def State.reset : State := State.resetWith thisHardware

end Sys2Proof.Machine
end

