-- ==== Sys2Proof/Machine/Flags.lean ====
section
/-! DEFINITION. The views of the flags: the framer state (R25), the STATUS byte (R31), the status codes (R66), and which
fields of a result each status carries (R27). -/

namespace Sys2Proof.Machine

/-- The framer state (R25), in the order of R120's tests.
DEDUCED (safe, log 10): where both flags are set, which no reachable state has (R25), `discard` decides. -/
def State.framerState (s : State) : FramerState :=
  if s.discard then .discard else if s.inFrame then .frame else .hunt

/-- The `STATUS` view (R31): bits 0 to 4 are the five flags, bits 7:5 read as 0. A read is no instruction (log 15). -/
def State.statusView (s : State) : BitVec 8 :=
  0b000#3 ++ BitVec.ofBool s.txOpen ++ BitVec.ofBool s.res.valid ++ BitVec.ofBool s.ovf
    ++ BitVec.ofBool s.discard ++ BitVec.ofBool s.inFrame

/-- The 3-bit code of a status (R66). -/
def statusCode : Status → BitVec 3
  | .ok => 0#3
  | .frameTooShort => 1#3
  | .crcMismatch => 2#3
  | .headerTruncated => 3#3
  | .frameTooLong => 4#3

/-- The value fields of the result record, the columns of R27. -/
inductive ResField where
  | ptype
  | crcRx
  | crcCalc
  | len
  | flen
  | payload
deriving DecidableEq, Repr

/-- The table of R27: the fields that hold a value under a status. -/
def carries : Status → ResField → Bool
  | .ok, _ => true
  | .frameTooShort, f => f = .flen
  | .crcMismatch, f => f = .crcRx || f = .crcCalc || f = .flen
  | .headerTruncated, f => f = .ptype || f = .crcRx || f = .crcCalc || f = .flen
  | .frameTooLong, _ => false

/-- Two records agree on one field. -/
def Res.agreeOn (a b : Res) : ResField → Prop
  | .ptype => a.ptype = b.ptype
  | .crcRx => a.crcRx = b.crcRx
  | .crcCalc => a.crcCalc = b.crcCalc
  | .len => a.len = b.len
  | .flen => a.flen = b.flen
  | .payload => a.payload = b.payload

/-- Two records agree as far as the spec fixes them (R205): the same `valid`, and while it is set the same status and the
same value in every field the status carries. -/
def Res.sameSpecified (a b : Res) : Prop :=
  a.valid = b.valid ∧
    (a.valid = true → a.status = b.status ∧ ∀ f, carries a.status f = true → a.agreeOn b f)

end Sys2Proof.Machine
end

