-- ==== Sys2Proof/Machine/Crc.lean ====
section
/-! DEFINITION. The CRC engine (R170, R171, R176). -/

namespace Sys2Proof.Machine

open Sys2Proof.Config

/-- One shift of R171: bit 15 is tested before the shift (D7). -/
def crcShift (c : Half) : Half :=
  if c.getLsbD 15 then (c <<< 1) ^^^ crcPoly else c <<< 1

/-- `repeat n times` of R171. -/
def crcShifts : Nat → Half → Half
  | 0, c => c
  | n + 1, c => crcShifts n (crcShift c)

/-- `crc_byte(c, b)` (R171): the byte is XORed into the high byte, then eight shifts. -/
def crcByte (c : Half) (b : Byte) : Half := crcShifts 8 (c ^^^ (b.setWidth 16 <<< 8))

/-- The complement of R170, applied at both ends when `CRC_INVERT` is true. -/
def crcComplement (invert : Bool) (c : Half) : Half := if invert then ~~~c else c

/-- `crc16(data, init)` (R170). -/
def crc16 (invert : Bool) (data : List Byte) (init : Half) : Half :=
  crcComplement invert (data.foldl crcByte (crcComplement invert init))

end Sys2Proof.Machine
end

