-- ==== Sys2Proof/Machine/Deescape.lean ====
section
/-! DEFINITION. The de-escaper as one function (R150), and the streaming form R158 describes. -/

namespace Sys2Proof.Machine

open Sys2Proof.Config

/-- `deescape(raw)` (R150), the pseudocode's loop as recursion on the raw bytes that remain. -/
def deescape (mode : EscUnknownMode) : List Byte → List Byte
  | [] => []
  | [b] => if b = escByte then [] else [b]
  | b :: c :: rest =>
    if b = escByte then
      if c = escEnd then endByte :: deescape mode rest
      else if c = escEsc then escByte :: deescape mode rest
      else if c = escStart then startByte :: deescape mode rest
      else match mode with
        | .dropEsc => deescape mode (c :: rest)
        | .dropPair => deescape mode rest
    else b :: deescape mode (c :: rest)

/-- De-escaping byte by byte with a one-bit "ESC pending" flag that is dropped at the end (R158). -/
def deescapeStream (mode : EscUnknownMode) : (pending : Bool) → List Byte → List Byte
  | _, [] => []
  | false, b :: rest =>
    if b = escByte then deescapeStream mode true rest else b :: deescapeStream mode false rest
  | true, b :: rest =>
    if b = escEnd then endByte :: deescapeStream mode false rest
    else if b = escEsc then escByte :: deescapeStream mode false rest
    else if b = escStart then startByte :: deescapeStream mode false rest
    else match mode with
      | .dropEsc => if b = escByte then deescapeStream mode true rest else b :: deescapeStream mode false rest
      | .dropPair => deescapeStream mode false rest

end Sys2Proof.Machine
end

