-- ==== Sys2Proof/Machine/Operands.lean ====
section
/-! DEFINITION. The operand forms over byte lists: byte access, the little-endian fields (R10, R44, R72), and the halves of
a 16-bit value (R45, R177). -/

namespace Sys2Proof.Machine

/-- `f[i]` (R8). It is used only where `i < len(f)` (R10); past the end it is 0, which no rule reads (log 13). -/
def byteAt (f : List Byte) (i : Nat) : Byte := f.getD i 0x00#8

/-- `LE16(f, i) = f[i] | (f[i+1] << 8)` (R10, R44). -/
def le16 (f : List Byte) (i : Nat) : Half :=
  (byteAt f i).setWidth 16 ||| (byteAt f (i + 1)).setWidth 16 <<< 8

/-- `v[7:0]` (R45). -/
def loByte (v : Half) : Byte := v.extractLsb' 0 8

/-- `v[15:8]` (R45). -/
def hiByte (v : Half) : Byte := v.extractLsb' 8 8

end Sys2Proof.Machine
end

