-- ==== Sys2Proof/Machine/Frame.lean ====
section
/-! DEFINITION. The frame decoder and header parser (R190 to R201): a pure function of the raw frame, the overflow flag
and the parameters. -/

namespace Sys2Proof.Machine

open Sys2Proof.Config

/-- What a `raise` or the `return` of R190 carries: the status and exactly the fields it lists (R11, R230). -/
inductive FrameOutcome where
  | frameTooLong
  | frameTooShort (flen : Nat)
  | crcMismatch (crcRx crcCalc : Half) (flen : Nat)
  | headerTruncated (ptype : Byte) (crcRx crcCalc : Half) (flen : Nat)
  | ok (ptype : Byte) (crcRx crcCalc len : Half) (flen : Nat) (payload : List Byte)
deriving DecidableEq, Repr

/-- The status of an outcome (R66, R230). -/
def FrameOutcome.status : FrameOutcome → Status
  | .frameTooLong => .frameTooLong
  | .frameTooShort _ => .frameTooShort
  | .crcMismatch _ _ _ => .crcMismatch
  | .headerTruncated _ _ _ _ => .headerTruncated
  | .ok _ _ _ _ _ _ => .ok

/-- The verification copy (R195): the frame with bytes 1 and 2 zeroed. -/
def verificationCopy (f : List Byte) : List Byte := (f.set 1 0x00#8).set 2 0x00#8

/-- The CRC the block computes of a de-escaped frame (R195, R172). -/
def frameCrc (p : Params) (f : List Byte) : Half := crc16 p.crcInvert (verificationCopy f) crcInitArg

/-- The stages of R190 from the length test on, over the de-escaped frame (R193 to R198). -/
def decodeDeescaped (p : Params) (f : List Byte) : FrameOutcome :=
  if f.length < minFrameLen then .frameTooShort f.length
  else if le16 f 1 ≠ frameCrc p f then .crcMismatch (le16 f 1) (frameCrc p f) f.length
  else if f.length < hdrLen then .headerTruncated (byteAt f 0) (le16 f 1) (frameCrc p f) f.length
  else .ok (byteAt f 0) (le16 f 1) (frameCrc p f) (le16 f 3) f.length (f.drop hdrLen)

/-- `decode(raw, ovf)` (R190). -/
def decodeFrame (p : Params) (raw : List Byte) (ovf : Bool) : FrameOutcome :=
  if ovf then .frameTooLong else decodeDeescaped p (deescape p.escUnknownMode raw)

end Sys2Proof.Machine
end

