-- ==== Sys2Proof/Machine/Ops.lean ====
section
/-! DEFINITION. The named operations over the state: the transmit port, the framer's flags and accumulator, taking an
exception and returning from it, RESET, the guards of R120 and R262, and a step of the de-escaper's scan. -/

namespace Sys2Proof.Machine

open Sys2Proof.Config

/-- What the meanings answer. -/
abbrev Answer := Host.Outcome State Fault Refusal

/-! ## Transmit -/

/-- `emit`, for each byte in order (R9, R29). -/
def State.emit (s : State) (bs : List Byte) : State := { s with txOut := s.txOut ++ bs }

/-- `S.tx_open <- b` (R28). -/
def State.setTxOpen (s : State) (b : Bool) : State := { s with txOpen := b }

/-- The common part of TXD (R100): START first, if no frame is open. -/
def State.openTx (s : State) : State := if s.txOpen then s else (s.emit [startByte]).setTxOpen true

/-- TXD of a byte whose escape part is `bs` (R100). -/
def State.sendByte (bs : List Byte) (s : State) : State := s.openTx.emit bs

/-- TXE (R105): START first if no frame is open, then END; the frame is closed. -/
def State.closeTx (s : State) : State :=
  ((if s.txOpen then s else s.emit [startByte]).emit [endByte]).setTxOpen false

/-! ## The framer's flags and accumulator -/

/-- Entering FRAME (R121). -/
def State.enterFrame (s : State) : State := { s with inFrame := true, acc := [], ovf := false }

/-- Leaving FRAME (R123). -/
def State.leaveFrame (s : State) : State := { s with inFrame := false, acc := [], ovf := false }

/-- `AccAppend(b)`, the only write that grows the accumulator (R10, R41). -/
def State.accAppend (s : State) (b : Byte) : State := { s with acc := s.acc ++ [b] }

/-- `S.ovf <- 1` (R124). -/
def State.setOvf (s : State) : State := { s with ovf := true }

/-- `S.discard <- b` (R123, R126). -/
def State.setDiscard (b : Bool) (s : State) : State := { s with discard := b }

/-! ## Taking an exception, and returning -/

/-- The record of an outcome: the listed fields over a record of free values (R202). -/
def FrameOutcome.record (blank : Res) : FrameOutcome → Res
  | .frameTooLong => { blank with status := .frameTooLong }
  | .frameTooShort flen => { blank with status := .frameTooShort, flen := flen }
  | .crcMismatch crcRx crcCalc flen =>
    { blank with status := .crcMismatch, crcRx := crcRx, crcCalc := crcCalc, flen := flen }
  | .headerTruncated ptype crcRx crcCalc flen =>
    { blank with status := .headerTruncated, ptype := ptype, crcRx := crcRx, crcCalc := crcCalc, flen := flen }
  | .ok ptype crcRx crcCalc len flen payload =>
    { blank with
      status := .ok, ptype := ptype, crcRx := crcRx, crcCalc := crcCalc, len := len, flen := flen, payload := payload }

/-- The result write (R202), which is how an exception is taken (R236) and an OK result handed over alike: the whole
register is written, `valid` is set, and what the outcome does not list becomes unspecified. -/
def State.writeResult (s : State) (o : FrameOutcome) : State :=
  { s with res := o.record (Res.unspecified s.params s.draws true), draws := s.draws + 1 }

/-- The return (R203, R237): `valid` is cleared and every other field becomes unspecified. -/
def State.releaseResult (s : State) : State :=
  { s with res := Res.unspecified s.params s.draws false, draws := s.draws + 1 }

/-- TAKE's effect (R203): a waiting result is released; with none waiting nothing changes (D28). -/
def State.takeResult (s : State) : State := if s.res.valid then s.releaseResult else s

/-! ## RESET -/

/-- RESET (R260): the values of R30; `txOut` is not written. -/
def State.clear (s : State) : State :=
  { s with
    inFrame := false, acc := [], ovf := false, discard := false, txOpen := false, resetDone := true,
    res := Res.unspecified s.params s.draws false, draws := s.draws + 1 }

/-! ## Guards -/

/-- An RX is held while a result waits (R120). Before the first RESET it is refused instead (R262). -/
def State.rxHeld (s : State) : Bool := s.resetDone && s.res.valid

/-- An operation that is never held: refused before the first RESET (R262; that the run ends there: log 18), else its effect. -/
def afterReset (effect : State → State) (s : State) : Answer :=
  if s.resetDone then .next (effect s) else .refused .beforeReset

/-- The hold (R120): while a result waits there is no step, and nothing changes (DEDUCED, safe, log 14). -/
def whenFree (effect : State → State) (s : State) : State := if s.rxHeld then s else effect s

/-- An RX operation (R120): refused before the first RESET, held (no step: nothing changes, and the byte stays with the
producer) while a result waits, else its effect. -/
def rxOp (effect : State → State) (s : State) : Answer :=
  afterReset (whenFree effect) s

/-! ## The de-escaper's scan -/

/-- The window at the scan's position (R76), if the scan has bytes left. -/
def scanWindow : List Byte → Option Window
  | [] => none
  | [b] => some (window b none)
  | b :: c :: _ => some (window b (some c))

/-- One case of R150: the output is appended and the position advances by `consumed`. -/
def State.scanAdvance (s : State) (output : List Byte) (consumed : Nat) : State :=
  { s with deOut := s.deOut ++ output, deRaw := s.deRaw.drop consumed }

end Sys2Proof.Machine
end

