-- ==== Sys2Proof/Machine/Ctl.lean ====
section
/-! DEFINITION. The meanings of TAKE (R203) and RESET (R260). -/

namespace Sys2Proof.Machine

/-- TAKE (R203), never held. -/
def execTake (s : State) : Answer := afterReset State.takeResult s

/-- RESET (R260), enabled in every state, before the first RESET too (R262). -/
def execReset (s : State) : Answer := .next s.clear

end Sys2Proof.Machine
end

