-- ==== Sys2Proof/Machine/De.lean ====
section
/-! DEFINITION. The meanings of the de-escape rows (R151 to R156) as single steps of the scan of R150 over `deRaw` and
`deOut`. They are no agent's operations (R68) and nothing else touches those two registers (log 8). -/

namespace Sys2Proof.Machine

open Sys2Proof.Config

/-- DE.ESC_END (R152). -/
def execDeEscEnd (s : State) : Answer := .next (s.scanAdvance [endByte] 2)

/-- DE.ESC_ESC (R153). -/
def execDeEscEsc (s : State) : Answer := .next (s.scanAdvance [escByte] 2)

/-- DE.ESC_START (R154). -/
def execDeEscStart (s : State) : Answer := .next (s.scanAdvance [startByte] 2)

/-- How far DE.ESC_BAD advances (R155). -/
def badConsumed : EscUnknownMode → Nat
  | .dropEsc => 1
  | .dropPair => 2

/-- DE.ESC_BAD (R155): no output. -/
def execDeEscBad (_next : Byte) (s : State) : Answer :=
  .next (s.scanAdvance [] (badConsumed s.params.escUnknownMode))

/-- DE.ESC_TRAIL (R156): no output. -/
def execDeEscTrail (s : State) : Answer := .next (s.scanAdvance [] 1)

/-- DE.LIT (R151). -/
def execDeLit (cur : Byte) (_next : Option Byte) (s : State) : Answer := .next (s.scanAdvance [cur] 1)

end Sys2Proof.Machine
end

