-- ==== Sys2Proof/Machine/Rx.lean ====
section
/-! DEFINITION. The meanings of the RX rows (R120 to R126). The decoder chooses the row by the framer state; a meaning is
its own row's writes (log 7). -/

namespace Sys2Proof.Machine

open Sys2Proof.Config

/-- RX.HUNT.START (R121). `eoc` is not read. -/
def execRxHuntStart (_eoc : Bool) (s : State) : Answer := rxOp State.enterFrame s

/-- RX.HUNT.SKIP (R122): the byte is ignored. -/
def execRxHuntSkip (_eoc : Bool) (_byte : Byte) (s : State) : Answer := rxOp id s

/-- The frame's end (R123), read top to bottom: decode, leave FRAME, and DISCARD where the mode and `eoc` ask for it. -/
def State.endFrame (eoc : Bool) (s : State) : State :=
  let done := (s.writeResult (decodeFrame s.params s.acc s.ovf)).leaveFrame
  if s.params.frameMode = .firstPerChunk ∧ eoc = false then done.setDiscard true else done

/-- RX.FRAME.END (R123). -/
def execRxFrameEnd (eoc : Bool) (s : State) : Answer := rxOp (State.endFrame eoc) s

/-- Storing a byte of the frame in flight (R124): appended while there is room, else the overflow is noted. -/
def State.storeByte (byte : Byte) (s : State) : State :=
  if s.acc.length < s.params.maxRawLen then s.accAppend byte else s.setOvf

/-- RX.FRAME.DATA (R124). `eoc` is not read. -/
def execRxFrameData (_eoc : Bool) (byte : Byte) (s : State) : Answer := rxOp (State.storeByte byte) s

/-- RX.DISCARD.LAST (R126): the byte is dropped and DISCARD ends. -/
def execRxDiscardLast (_byte : Byte) (s : State) : Answer := rxOp (State.setDiscard false) s

/-- RX.DISCARD.DROP (R125): the byte is dropped. -/
def execRxDiscardDrop (_byte : Byte) (s : State) : Answer := rxOp id s

end Sys2Proof.Machine
end

