-- ==== Sys2Proof/Machine/Tx.lean ====
section
/-! DEFINITION. The meanings of the transmit rows (R100 to R105). None is ever held (R272). -/

namespace Sys2Proof.Machine

/-- TXD.END (R101). -/
def execTxdEnd (s : State) : Answer := afterReset (State.sendByte [escByte, escEnd]) s

/-- TXD.ESC (R102). -/
def execTxdEsc (s : State) : Answer := afterReset (State.sendByte [escByte, escEsc]) s

/-- TXD.START (R103). -/
def execTxdStart (s : State) : Answer := afterReset (State.sendByte [escByte, escStart]) s

/-- TXD.LIT (R104). -/
def execTxdLit (byte : Byte) (s : State) : Answer := afterReset (State.sendByte [byte]) s

/-- TXE (R105). -/
def execTxe (s : State) : Answer := afterReset State.closeTx s

end Sys2Proof.Machine
end

