-- ==== Sys2Proof/Machine/Dispatch.lean ====
section
/-! DEFINITION. One arm per row of the opcode map (R74, R76). -/

namespace Sys2Proof.Machine

def exec (i : Instr) (s : State) : Host.Outcome State Fault Refusal :=
  match i with
  | .rxHuntStart eoc => Sys2Proof.Machine.execRxHuntStart eoc s
  | .rxHuntSkip eoc byte => Sys2Proof.Machine.execRxHuntSkip eoc byte s
  | .rxFrameEnd eoc => Sys2Proof.Machine.execRxFrameEnd eoc s
  | .rxFrameData eoc byte => Sys2Proof.Machine.execRxFrameData eoc byte s
  | .rxDiscardLast byte => Sys2Proof.Machine.execRxDiscardLast byte s
  | .rxDiscardDrop byte => Sys2Proof.Machine.execRxDiscardDrop byte s
  | .take => Sys2Proof.Machine.execTake s
  | .reset => Sys2Proof.Machine.execReset s
  | .txdEnd => Sys2Proof.Machine.execTxdEnd s
  | .txdEsc => Sys2Proof.Machine.execTxdEsc s
  | .txdStart => Sys2Proof.Machine.execTxdStart s
  | .txdLit byte => Sys2Proof.Machine.execTxdLit byte s
  | .txe => Sys2Proof.Machine.execTxe s
  | .deEscEnd => Sys2Proof.Machine.execDeEscEnd s
  | .deEscEsc => Sys2Proof.Machine.execDeEscEsc s
  | .deEscStart => Sys2Proof.Machine.execDeEscStart s
  | .deEscBad next => Sys2Proof.Machine.execDeEscBad next s
  | .deEscTrail => Sys2Proof.Machine.execDeEscTrail s
  | .deLit cur next => Sys2Proof.Machine.execDeLit cur next s

end Sys2Proof.Machine
end

