-- ==== Sys2Proof/Machine/Agents.lean ====
section
/-! DEFINITION. The agents' moves (R34): which word a party offers, when the block takes it, and what the consumer and the
wire sink get back (R120, R266, R272 to R274; log 4, log 9). -/

namespace Sys2Proof.Machine

/-- The words a party has still to issue. The wire sink and the scan issue none. -/
def State.queue (s : State) : Turn → List CmdWord
  | .producer => s.producerQ
  | .consumer => s.consumerQ
  | .client => s.clientQ
  | .wireSink => []
  | .deescaper => []

/-- A party's words after one of them was taken. -/
def State.setQueue (s : State) (t : Turn) (q : List CmdWord) : State :=
  match t with
  | .producer => { s with producerQ := q }
  | .consumer => { s with consumerQ := q }
  | .client => { s with clientQ := q }
  | .wireSink => s
  | .deescaper => s

/-- The party at turn has had its turn. -/
def State.dropTurn (s : State) : State := { s with turns := s.turns.drop 1 }

/-- The consumer reads the record that its TAKE is about to release (R203: issued after it has read `S.res`; R273). -/
def State.readResult (s : State) : State :=
  if s.res.valid then { s with taken := s.taken ++ [s.res] } else s

/-- What the parties' side records when the word of `i` is taken. -/
def State.recordRead (s : State) (i : Instr) : State := if i = .take then s.readResult else s

/-- The operation is not enabled (R9): an RX while a result waits (R120). -/
def held (i : Instr) (s : State) : Bool := i.isRx && s.rxHeld

/-- A party issues its next word, if it has one. A reserved word is refused (R73; that the run ends there: log 18). A held word is
not consumed: it stays at the front of its party's list and is offered again at that party's next turn (R120, R266). Otherwise the
word is consumed and its instruction runs. -/
def issue (t : Turn) (s : State) : Answer :=
  match s.queue t with
  | [] => .next s
  | w :: rest =>
    match decodeWord s.framerState w with
    | .error why => .refused (.reservedWord why)
    | .ok i => if held i s then .next s else exec i ((s.recordRead i).setQueue t rest)

/-- The wire sink takes the front byte of the transmit stream, if there is one (R29, R272). -/
def State.sinkByte (s : State) : State := { s with txOut := s.txOut.drop 1, wire := s.wire ++ s.txOut.take 1 }

/-- One window case of the scan, if it has bytes left (R76, R150). -/
def scanStep (s : State) : Answer :=
  match scanWindow s.deRaw with
  | none => .next s
  | some u => exec (decodeWindow u) s

/-- The move of whoever has the turn. -/
def move (t : Turn) (s : State) : Answer :=
  match t with
  | .producer => issue .producer s
  | .consumer => issue .consumer s
  | .client => issue .client s
  | .wireSink => .next s.sinkByte
  | .deescaper => scanStep s

/-- One step: the party at turn moves. With no turn left nothing moves, because the block has no step of its own (R34). -/
def takeTurn (s : State) : Answer :=
  match s.turns with
  | [] => .next s
  | t :: _ => move t s.dropTurn

/-- A command word placed so that the next step is the client's issue of it (log 6). -/
def State.placeWord (s : State) (w : CmdWord) : State :=
  { s with clientQ := w :: s.clientQ, turns := .client :: s.turns }

/-- A window placed at the front of the scan so that the next step is its case (log 6, log 8). -/
def State.placeWindow (s : State) (u : Window) : State :=
  { s with
    deRaw := if winHasNext u then winCur u :: winNext u :: s.deRaw else [winCur u],
    turns := .deescaper :: s.turns }

end Sys2Proof.Machine
end

