-- ==== Sys2Proof/Machine/Step.lean ====
section
/-! DEFINITION. One step of the machine: one move of one agent (R9, R34). -/

namespace Sys2Proof.Machine

/-- One step. -/
def step (s : State) : Host.Outcome State Fault Refusal := takeTurn s

/-- `s` with the instruction of a table word placed where the next step takes it: a command word in the client's list, a
window (more than two bytes) at the front of the scan. A number too wide for either places nothing. -/
def State.withFetchWord (s : State) (nbits w : Nat) : State :=
  if nbits ≤ 16 then
    if w < 2 ^ 11 then s.placeWord (BitVec.ofNat 11 w) else s
  else
    if w < 2 ^ 17 then s.placeWindow (BitVec.ofNat 17 w) else s

end Sys2Proof.Machine
end

