-- ==== Sys2Proof/Machine/PacketType.lean ====
section
/-! DEFINITION. The packet types R65 lists. The block passes every `type` through (R201), so nothing else depends on them. -/

namespace Sys2Proof.Machine

/-- The 26 named packet types (R65, C2). -/
inductive PacketType where
  | getDeviceInfo | ping | getUptime | reboot | rebootBootloader | getConfig | setConfig | delConfig | nukeConfig
  | beginFileWrite | fileChunk | getFileInfo | deleteFile | beginOta | otaChunk | otaCommit | binRpcRequest | ack
  | chunkAck | configResult | fileInfo | uptime | devInfo | binRpcReply | jsonRpcReply | nack
deriving DecidableEq, Repr

/-- The table of R65. -/
def packetTypes : List (Byte × PacketType) :=
  [(0x01#8, .getDeviceInfo), (0x02#8, .ping), (0x03#8, .getUptime), (0x04#8, .reboot), (0x05#8, .rebootBootloader),
   (0x10#8, .getConfig), (0x11#8, .setConfig), (0x12#8, .delConfig), (0x13#8, .nukeConfig)] ++
  [(0x20#8, .beginFileWrite), (0x21#8, .fileChunk), (0x22#8, .getFileInfo), (0x23#8, .deleteFile),
   (0x30#8, .beginOta), (0x31#8, .otaChunk), (0x32#8, .otaCommit), (0x70#8, .binRpcRequest)] ++
  [(0x80#8, .ack), (0x81#8, .chunkAck), (0x82#8, .configResult), (0x83#8, .fileInfo), (0x84#8, .uptime),
   (0x85#8, .devInfo), (0x86#8, .binRpcReply), (0x87#8, .jsonRpcReply), (0xFF#8, .nack)]

/-- The name of a `type` code; none for an unknown type, which is not an error (R65). -/
def packetTypeOf (code : Byte) : Option PacketType := packetTypes.lookup code

end Sys2Proof.Machine
end

