-- ==== Sys2Proof/Machine/Program.lean ====
section
/-! DEFINITION. The functions of whole byte lists that sequences of operations realise (R106, R177), and the program
notation with its encoding (R78 to R80). -/

namespace Sys2Proof.Machine

open Sys2Proof.Config

/-- `esc(b)` (R106): the wire sequence of one packet byte (R63). -/
def escOf (b : Byte) : List Byte :=
  if b = endByte then [escByte, escEnd]
  else if b = escByte then [escByte, escEsc]
  else if b = startByte then [escByte, escStart]
  else [b]

/-- `escaped(P)` (R61): what stands between START and END on the wire. -/
def escBody (p : List Byte) : List Byte := p.flatMap escOf

/-- `encode(p)` (R106). -/
def encodeFrame (p : List Byte) : List Byte := startByte :: escBody p ++ [endByte]

/-- `e(p)` (R107): how many bytes of `p` are reserved. -/
def reservedCount (p : List Byte) : Nat := p.countP isReserved

/-- The packet of `seal` before its CRC is filled in (R177). -/
def unsealed (t : Byte) (len : Half) (pl : List Byte) : List Byte :=
  [t, 0x00#8, 0x00#8, loByte len, hiByte len] ++ pl

/-- `seal(t, L, pl)` (R177), a helper for senders, not an operation of the block. -/
def sealPacket (p : Params) (t : Byte) (len : Half) (pl : List Byte) : List Byte :=
  let c := crc16 p.crcInvert (unsealed t len pl) crcInitArg
  ((unsealed t len pl).set 1 (loByte c)).set 2 (hiByte c)

/-- The RX word of a byte (R69). -/
def rxWord (eoc : Bool) (b : Byte) : CmdWord := cmdWord 0b00#2 eoc b

/-- The TXD word of a byte (R71). -/
def txdWord (b : Byte) : CmdWord := cmdWord 0b10#2 false b

/-- TXE (R71). -/
def txeWord : CmdWord := 0x500#11

/-- TAKE (R70). -/
def takeWord : CmdWord := 0x200#11

/-- RESET (R70). -/
def resetWord : CmdWord := 0x201#11

/-- RX words of bytes, the last of them with `eoc` as given (R78). -/
def rxWords (last : Bool) : List Byte → List CmdWord
  | [] => []
  | [b] => [rxWord last b]
  | b :: c :: rest => rxWord false b :: rxWords last (c :: rest)

/-- The lines of a program (R78) and the pseudo-instructions (R79). Which terms are program lines: `Line.wf`. -/
inductive Line where
  | reset
  | take
  /-- `RX b1 ... bn`, with `|` at its end where `closed`. -/
  | rx (bytes : List Byte) (closed : Bool)
  | txd (bytes : List Byte)
  | txe
  | txf (payload : List Byte)
  | rxc (chunk : List Byte)
  | rxp (payload : List Byte)
deriving DecidableEq, Repr

/-- The command words of a line (R78, R79). -/
def Line.words : Line → List CmdWord
  | .reset => [resetWord]
  | .take => [takeWord]
  | .rx bytes closed => rxWords closed bytes
  | .txd bytes => bytes.map txdWord
  | .txe => [txeWord]
  | .txf payload => payload.map txdWord ++ [txeWord]
  | .rxc chunk => rxWords true chunk
  | .rxp payload => rxWords true (encodeFrame payload)

/-- Which terms are program lines. There is no empty chunk, so neither `RXC []` nor `RX |` is one (R79, D29); an empty TXF is
(R79).
DESIGN CHOICE (safe, log 16): R78 does not say whether `RX` with no `|`, or `TXD`, may stand without bytes; here they may
not. -/
def Line.wf : Line → Bool
  | .reset => true
  | .take => true
  | .rx bytes _ => !bytes.isEmpty
  | .txd bytes => !bytes.isEmpty
  | .txe => true
  | .txf _ => true
  | .rxc chunk => !chunk.isEmpty
  | .rxp _ => true

/-- The encoding of a program (R80); none where a term is no program line (R79). -/
def programWords (lines : List Line) : Option (List CmdWord) :=
  if lines.all Line.wf then some (lines.flatMap Line.words) else none

end Sys2Proof.Machine
end

