-- ==== Sys2Proof/Machine/Receive.lean ====
section
/-! DEFINITION. The chunk function of the source as operations on the block (R128): a chunk is fed byte by byte and the
consumer takes each result as it appears. -/

namespace Sys2Proof.Machine

/-- The consumer's TAKE of the result the step before has produced, if it has (R128): the state after it, and the record. -/
def takeProduced (t : State) : Option (State × List Res) :=
  if t.res.valid then
    match exec .take t with
    | .next u => some (u, [t.res])
    | .fault _ => none
    | .refused _ => none
  else some (t, [])

/-- A result that waits before the word is offered holds it (R120): the consumer's TAKE comes first, so that no byte is lost
(R266), and that record is no result of the word (DEDUCED, safe, log 17). -/
def takeWaiting (s : State) : Answer := if s.rxHeld then exec .take s else .next s

/-- One RX word, and the result it produced. None where the block refuses. -/
def receiveWord (w : CmdWord) (s : State) : Option (State × List Res) :=
  match decodeWord s.framerState w, takeWaiting s with
  | .ok i, .next free =>
    match exec i free with
    | .next t => takeProduced t
    | .fault _ => none
    | .refused _ => none
  | _, _ => none

/-- RX words in order, with the results in order. -/
def receiveWords : List CmdWord → State → Option (State × List Res)
  | [], s => some (s, [])
  | w :: ws, s =>
    match receiveWord w s with
    | none => none
    | some (t, rs) =>
      match receiveWords ws t with
      | none => none
      | some (u, more) => some (u, rs ++ more)

/-- `decode_incremental(c)` (R128): the state after the chunk and the results it produced. None for an empty chunk, which is no
chunk (R79, D29). -/
def decodeIncremental (chunk : List Byte) (s : State) : Option (State × List Res) :=
  if chunk = [] then none else receiveWords (rxWords true chunk) s

/-- Several chunks one after the other (R130), none of them empty. -/
def decodeChunks (chunks : List (List Byte)) (s : State) : Option (State × List Res) :=
  if [] ∈ chunks then none else receiveWords (chunks.flatMap (rxWords true)) s

end Sys2Proof.Machine
end

