-- ==== Sys2Proof/Safety.lean ====
section
/-! DEFINITION. The predicates claims use: the invariants of R25 and R27, power-on (R262) and clean entry (R265), the end of
a run (R273), and sequences of operations and steps. -/

namespace Sys2Proof.Machine

open Sys2Proof.Config

/-- The invariants R25 lists. -/
abbrev framerInv (s : State) : Prop :=
  (s.discard = true → s.inFrame = false) ∧
  (s.ovf = true → s.inFrame = true) ∧
  (s.inFrame = false → s.acc = [] ∧ s.ovf = false) ∧
  s.acc.length ≤ s.params.maxRawLen ∧
  (s.params.frameMode = .allFrames → s.discard = false)

/-- What a record says of itself: the range of `flen` (R26), and, while a result waits, what each status implies of its
fields (R27, R199, R206). -/
abbrev resultInv (s : State) : Prop :=
  s.res.flen ≤ s.params.maxRawLen ∧
  (s.res.valid = true →
    (s.res.status = .ok →
      s.res.crcRx = s.res.crcCalc ∧ s.res.flen = s.res.payload.length + hdrLen) ∧
    (s.res.status = .frameTooShort → s.res.flen < minFrameLen) ∧
    (s.res.status = .crcMismatch → s.res.crcRx ≠ s.res.crcCalc ∧ minFrameLen ≤ s.res.flen) ∧
    (s.res.status = .headerTruncated →
      s.res.crcRx = s.res.crcCalc ∧ minFrameLen ≤ s.res.flen ∧ s.res.flen < hdrLen))

/-- The invariants speak of states after the first RESET; before it the elements hold no value (R262). -/
abbrev framerSound (s : State) : Prop := s.resetDone = true → framerInv s

/-- Both invariants, after the first RESET. -/
abbrev blockSound (s : State) : Prop := s.resetDone = true → framerInv s ∧ resultInv s

/-- Power-on (R262): no RESET yet and an empty transmit stream. Every other element of the block holds no value, so this is
a condition on states and not one state. -/
abbrev atPowerOn (s : State) : Prop := s.resetDone = false ∧ s.txOut = []

/-- The clean entry state (R265). -/
abbrev cleanEntry (s : State) : Prop :=
  s.resetDone = true ∧ s.inFrame = false ∧ s.acc = [] ∧ s.ovf = false ∧ s.discard = false ∧
  s.res.valid = false ∧ s.txOpen = false ∧ s.txOut = [] ∧ s.statusView = 0x00#8

/-- How an observation reads the transmit stream (R273). -/
inductive TxObservation where
  /-- Through the wire sink, byte by byte. -/
  | bySink
  /-- `tx_out` as a whole, where the run ended. -/
  | whole
deriving DecidableEq, Repr

/-- The end of a run (R273): every line has taken its step, so no party has a word left and no RX is held, and the wire sink has
taken every byte of `tx_out`, or the observation reads `tx_out` as a whole. The records the consumer read are `taken`. -/
abbrev runEnded (o : TxObservation) (s : State) : Prop :=
  s.producerQ = [] ∧ s.consumerQ = [] ∧ s.clientQ = [] ∧ (o = .whole ∨ s.txOut = [])

/-- Two states that differ at most in what the spec leaves unspecified: the result records agree as far as the spec fixes them
(R27, R205), the model's own counter of free values (log 2) is not looked at, and everything else is the same. -/
def State.agreesWith (s t : State) : Prop :=
  s = { t with res := s.res, draws := s.draws } ∧ s.res.sameSpecified t.res

/-- Two answers that agree as far as the spec fixes them: the same kind, and states that agree or the same reason. -/
def answersAgree : Answer → Answer → Prop
  | .next s, .next t => s.agreesWith t
  | .fault r, .fault q => r = q
  | .refused r, .refused q => r = q
  | _, _ => False

/-- Two receptions that agree as far as the spec fixes them: agreeing states, and as many records, agreeing one by one. -/
def receptionsAgree : Option (State × List Res) → Option (State × List Res) → Prop
  | some (s, rs), some (t, qs) => s.agreesWith t ∧ List.Forall₂ Res.sameSpecified rs qs
  | none, none => True
  | _, _ => False

/-- One operation, then another in the state it leaves; none after a refusal (log 18). -/
def bothInOrder (i j : Instr) (s : State) : Answer :=
  match exec i s with
  | .next t => exec j t
  | .fault r => .fault r
  | .refused r => .refused r

/-- `n` steps, stopping at the first refusal (log 18). -/
def runSteps : Nat → State → Answer
  | 0, s => .next s
  | n + 1, s =>
    match step s with
    | .next t => runSteps n t
    | .fault r => .fault r
    | .refused r => .refused r

/-- The states the machine can be in (R25, R263): power-on, what a step leads to, and whatever words and turns the agents
may have in front of them. -/
inductive Reachable : State → Prop where
  | powerOn (s : State) : atPowerOn s → Reachable s
  | step (s t : State) : Reachable s → step s = .next t → Reachable t
  | offer (s : State) (pq cq kq : List CmdWord) (ts : List Turn) :
    Reachable s → Reachable { s with producerQ := pq, consumerQ := cq, clientQ := kq, turns := ts }

end Sys2Proof.Machine
end

