-- ==== Sys2Proof/Certificates/Slice0/Obligations.lean ====
section
/-! DEFINITION. The statements for the provers, in the order of the spec's files: encodings, transmit, receive, de-escaper,
CRC, frame decoder, result register, reset, and the whole machine. -/

open Sys2Proof Sys2Proof.Machine Sys2Proof.Config

/-! ## Encodings -/

/-- Decoding the word of a well-formed instruction, in a framer state its row applies in, gives the instruction back, with
every operand (R69 to R72, R74, R76). -/
def Obligations.DecodeOfEncodeIsIdentity : Prop :=
  ∀ (i : Instr) (ctx : FramerState), i.wellFormed = true → i.inContext ctx = true → decode ctx (encode i) = .ok i

/-- What the decoder reads from a command word encodes back to that word, is well formed, and stands in a row of the framer
state it was decoded in (R69 to R74). -/
def Obligations.EncodeOfDecodeIsIdentity : Prop :=
  ∀ (ctx : FramerState) (w : CmdWord) (i : Instr), decodeWord ctx w = .ok i →
    encode i = .cmd w ∧ i.wellFormed = true ∧ i.inContext ctx = true

/-- R74: the decoder gives the operation of the first row that matches in the framer state, and a word no row matches is
reserved. -/
def Obligations.DecoderFollowsOpcodeMap : Prop :=
  ∀ (ctx : FramerState) (w : CmdWord),
    (∀ i, decodeWord ctx w = .ok i → firstRow commandRows ctx w = some i.row) ∧
    ((∃ r, decodeWord ctx w = .error r) ↔ firstRow commandRows ctx w = none)

/-- R76: the window of a position has the fields the rule gives it, every window matches a row, and the decoder gives the
first row that does. -/
def Obligations.WindowDecoderFollowsMap : Prop :=
  (∀ (cur : Byte) (next : Option Byte),
    winCur (window cur next) = cur ∧ winHasNext (window cur next) = next.isSome ∧
    winNext (window cur next) = next.getD 0x00#8) ∧
  ∀ (ctx : FramerState) (u : Window), firstRow windowRows ctx u = some (decodeWindow u).row

/-- R73: the reserved words are exactly `0x202` to `0x3FF`, `0x501` to `0x5FF` and `0x600` to `0x7FF`, in every framer state;
whoever issues one, the step is refused; every RX word has a meaning in every framer state; and no status has code 5 to 7. -/
def Obligations.ReservedWordsAreRefused : Prop :=
  (∀ (ctx : FramerState) (w : CmdWord),
    (∃ r, decodeWord ctx w = .error r) ↔
      (0x202 ≤ w.toNat ∧ w.toNat ≤ 0x3FF ∨ 0x501 ≤ w.toNat ∧ w.toNat ≤ 0x5FF ∨ 0x600 ≤ w.toNat)) ∧
  (∀ (s : State) (t : Turn) (ts : List Turn) (w : CmdWord) (rest : List CmdWord) (r : Reserved),
    s.turns = t :: ts → s.queue t = w :: rest → decodeWord s.framerState w = .error r →
    step s = .refused (.reservedWord r)) ∧
  (∀ (ctx : FramerState) (w : CmdWord), w.toNat < 0x200 → ∃ i, decodeWord ctx w = .ok i ∧ i.isRx = true) ∧
  ∀ st : Status, (statusCode st).toNat < 5

/-- Words written out from the spec's encodings decode to the instructions they stand for (R69 to R71, R74, R76). -/
def Obligations.SampleWordsDecode : Prop :=
  decodeWord .hunt 0x15A#11 = .ok (.rxHuntStart true) ∧ decodeWord .hunt 0x0C0#11 = .ok (.rxHuntSkip false 0xC0#8) ∧
  decodeWord .frame 0x1C0#11 = .ok (.rxFrameEnd true) ∧ decodeWord .frame 0x05A#11 = .ok (.rxFrameData false 0x5A#8) ∧
  decodeWord .discard 0x15A#11 = .ok (.rxDiscardLast 0x5A#8) ∧
  decodeWord .discard 0x0C0#11 = .ok (.rxDiscardDrop 0xC0#8) ∧
  decodeWord .frame 0x200#11 = .ok .take ∧ decodeWord .discard 0x201#11 = .ok .reset ∧
  decodeWord .hunt 0x4DC#11 = .ok (.txdLit 0xDC#8) ∧ decodeWord .frame 0x500#11 = .ok .txe ∧
  decodeWindow 0x1B7DC#17 = .deEscEnd ∧ decodeWindow 0x1B600#17 = .deEscTrail ∧
  decodeWindow 0x08341#17 = .deLit 0x41#8 (some 0x41#8)

/-- R65: each of the 26 listed codes has the name the list gives it, the codes are distinct, and an unlisted code has no name. -/
def Obligations.PacketTypesAreListed : Prop :=
  packetTypes.length = 26 ∧ (packetTypes.map Prod.fst).Nodup ∧
  (∀ e ∈ packetTypes, packetTypeOf e.1 = some e.2) ∧
  (∀ b : Byte, b ∉ packetTypes.map Prod.fst → packetTypeOf b = none) ∧
  (packetTypeOf 0x01#8 = some .getDeviceInfo ∧ packetTypeOf 0x02#8 = some .ping ∧
    packetTypeOf 0x03#8 = some .getUptime ∧ packetTypeOf 0x04#8 = some .reboot ∧
    packetTypeOf 0x05#8 = some .rebootBootloader ∧ packetTypeOf 0x10#8 = some .getConfig ∧
    packetTypeOf 0x11#8 = some .setConfig ∧ packetTypeOf 0x12#8 = some .delConfig ∧
    packetTypeOf 0x13#8 = some .nukeConfig ∧ packetTypeOf 0x20#8 = some .beginFileWrite ∧
    packetTypeOf 0x21#8 = some .fileChunk ∧ packetTypeOf 0x22#8 = some .getFileInfo ∧
    packetTypeOf 0x23#8 = some .deleteFile ∧ packetTypeOf 0x30#8 = some .beginOta ∧
    packetTypeOf 0x31#8 = some .otaChunk ∧ packetTypeOf 0x32#8 = some .otaCommit ∧
    packetTypeOf 0x70#8 = some .binRpcRequest ∧ packetTypeOf 0x80#8 = some .ack ∧
    packetTypeOf 0x81#8 = some .chunkAck ∧ packetTypeOf 0x82#8 = some .configResult ∧
    packetTypeOf 0x83#8 = some .fileInfo ∧ packetTypeOf 0x84#8 = some .uptime ∧
    packetTypeOf 0x85#8 = some .devInfo ∧ packetTypeOf 0x86#8 = some .binRpcReply ∧
    packetTypeOf 0x87#8 = some .jsonRpcReply ∧ packetTypeOf 0xFF#8 = some .nack)

/-- R31: each bit of STATUS is its flag, bits 7:5 read as 0, and the reset value is `0x00`. -/
def Obligations.StatusBitsAreFlags : Prop :=
  (∀ s : State,
    s.statusView.getLsbD 0 = s.inFrame ∧ s.statusView.getLsbD 1 = s.discard ∧ s.statusView.getLsbD 2 = s.ovf ∧
    s.statusView.getLsbD 3 = s.res.valid ∧ s.statusView.getLsbD 4 = s.txOpen ∧
    s.statusView.extractLsb' 5 3 = 0b000#3) ∧
  ∀ p : Params, (State.resetWith p).statusView = 0x00#8

/-- The codes of R66; 5 to 7 are never produced. -/
def Obligations.StatusCodesAreListed : Prop :=
  statusCode .ok = 0#3 ∧ statusCode .frameTooShort = 1#3 ∧ statusCode .crcMismatch = 2#3 ∧
  statusCode .headerTruncated = 3#3 ∧ statusCode .frameTooLong = 4#3 ∧
  ∀ st : Status, (statusCode st).toNat ≤ 4

/-! ## Transmit -/

/-- R100 to R104: TXD opens a frame with START if none is open, then sends the escape sequence of a reserved byte or the byte
itself; nothing but `tx_out` and `tx_open` changes. The rules' examples of `encode` hold. -/
def Obligations.TxdSendsEscapedByte : Prop :=
  (∀ ctx : FramerState,
    decodeWord ctx 0x4C0#11 = .ok .txdEnd ∧ decodeWord ctx 0x4DB#11 = .ok .txdEsc ∧
    decodeWord ctx 0x45A#11 = .ok .txdStart ∧
    ∀ b : Byte, b ≠ 0xC0#8 → b ≠ 0xDB#8 → b ≠ 0x5A#8 →
      decodeWord ctx (0x400#11 ||| b.setWidth 11) = .ok (.txdLit b)) ∧
  (encodeFrame [0xC0#8] = [0x5A#8, 0xDB#8, 0xDC#8, 0xC0#8] ∧ encodeFrame [0xDB#8] = [0x5A#8, 0xDB#8, 0xDD#8, 0xC0#8] ∧
    encodeFrame [0x5A#8] = [0x5A#8, 0xDB#8, 0xDE#8, 0xC0#8] ∧
    encodeFrame [0xDC#8, 0xDD#8, 0xDE#8] = [0x5A#8, 0xDC#8, 0xDD#8, 0xDE#8, 0xC0#8]) ∧
  ∀ s : State, s.resetDone = true →
    exec .txdEnd s = .next { s with
      txOpen := true, txOut := s.txOut ++ (if s.txOpen then [] else [0x5A#8]) ++ [0xDB#8, 0xDC#8] } ∧
    exec .txdEsc s = .next { s with
      txOpen := true, txOut := s.txOut ++ (if s.txOpen then [] else [0x5A#8]) ++ [0xDB#8, 0xDD#8] } ∧
    exec .txdStart s = .next { s with
      txOpen := true, txOut := s.txOut ++ (if s.txOpen then [] else [0x5A#8]) ++ [0xDB#8, 0xDE#8] } ∧
    ∀ b : Byte, b ≠ 0xC0#8 → b ≠ 0xDB#8 → b ≠ 0x5A#8 →
      exec (.txdLit b) s = .next { s with
        txOpen := true, txOut := s.txOut ++ (if s.txOpen then [] else [0x5A#8]) ++ [b] }

/-- R105: TXE sends END, after START if no frame was open, and closes the frame; nothing else changes. -/
def Obligations.TxeClosesFrame : Prop :=
  (∀ ctx : FramerState, decodeWord ctx 0x500#11 = .ok .txe) ∧
  ∀ s : State, s.resetDone = true →
    exec .txe s = .next { s with
      txOpen := false, txOut := s.txOut ++ (if s.txOpen then [] else [0x5A#8]) ++ [0xC0#8] }

/-- R106: issuing TXD for each byte of a payload and then TXE, with no frame open, appends `encode(p)` to the transmit stream
and leaves no frame open, whatever words and turns follow; `encode(p)` is the source's definition. -/
def Obligations.TransmitRunsEncode : Prop :=
  (∀ (p : List Byte) (s : State) (rest : List CmdWord) (ts : List Turn),
    s.resetDone = true → s.txOpen = false →
    s.clientQ = p.map txdWord ++ txeWord :: rest → s.turns = List.replicate (p.length + 1) .client ++ ts →
    runSteps (p.length + 1) s =
      .next { s with txOpen := false, txOut := s.txOut ++ encodeFrame p, clientQ := rest, turns := ts }) ∧
  ∀ p : List Byte, encodeFrame p = [0x5A#8] ++ p.flatMap escOf ++ [0xC0#8] ∧
    ∀ b : Byte, escOf b =
      if b = 0xC0#8 then [0xDB#8, 0xDC#8] else if b = 0xDB#8 then [0xDB#8, 0xDD#8]
      else if b = 0x5A#8 then [0xDB#8, 0xDE#8] else [b]

/-- R107: the length law and its bounds. -/
def Obligations.EncodeLengthLaw : Prop :=
  ∀ p : List Byte,
    (encodeFrame p).length = p.length + 2 + p.countP (fun b => b = 0xC0#8 || b = 0xDB#8 || b = 0x5A#8) ∧
    2 ≤ (encodeFrame p).length ∧ (encodeFrame p).length ≤ 2 * p.length + 2

/-- The shape of an encoded frame (R108): START only at the front, END only at the back, every ESC before an escape code. -/
def Obligations.EncodeShape : Prop :=
  ∀ p : List Byte,
    (encodeFrame p)[0]? = some 0x5A#8 ∧ (encodeFrame p).getLast? = some 0xC0#8 ∧
    ∀ (k : Nat) (b : Byte), (encodeFrame p)[k]? = some b →
      (b = 0x5A#8 → k = 0) ∧ (b = 0xC0#8 → k + 1 = (encodeFrame p).length) ∧
      (b = 0xDB#8 → ∃ c, (encodeFrame p)[k + 1]? = some c ∧ (c = 0xDC#8 ∨ c = 0xDD#8 ∨ c = 0xDE#8))

/-! ## Receive -/

/-- R121: in HUNT the word `0x05A`, with either `eoc`, is RX.HUNT.START; it enters FRAME with an empty accumulator and no
overflow, and changes nothing else. -/
def Obligations.RxHuntStartOpensFrame : Prop :=
  (∀ w : CmdWord, w &&& 0x6FF#11 = 0x05A#11 → decodeWord .hunt w = .ok (.rxHuntStart (cmdBit8 w))) ∧
  (∀ (eoc : Bool) (s : State), s.resetDone = true → s.res.valid = false →
    exec (.rxHuntStart eoc) s = .next { s with inFrame := true, acc := [], ovf := false }) ∧
  ∀ p : Params, ∃ t, exec (.rxHuntStart false) (State.resetWith p) = .next t ∧ t.statusView = 0x01#8

/-- R122: in HUNT every other RX word is RX.HUNT.SKIP, and it changes nothing. -/
def Obligations.RxHuntSkipIgnoresByte : Prop :=
  (∀ w : CmdWord, w &&& 0x600#11 = 0x000#11 → w &&& 0x6FF#11 ≠ 0x05A#11 →
    decodeWord .hunt w = .ok (.rxHuntSkip (cmdBit8 w) (cmdByte w))) ∧
  ∀ (eoc : Bool) (b : Byte) (s : State), b ≠ 0x5A#8 → s.resetDone = true → s.res.valid = false →
    exec (.rxHuntSkip eoc b) s = .next s

/-- R123: in FRAME the word `0x0C0`, with either `eoc`, is RX.FRAME.END; the result register takes the decode of the
accumulated bytes (valid, with the decode's status and every field that status carries), the framer leaves FRAME with an
empty accumulator, and DISCARD begins exactly in FIRST_PER_CHUNK with `eoc = 0`. Nothing else changes but the model's own
counter of free values. An empty raw frame is FRAME_TOO_SHORT, and the rule's example is OK with type `0x80`. -/
def Obligations.RxFrameEndDeliversResult : Prop :=
  (∀ w : CmdWord, w &&& 0x6FF#11 = 0x0C0#11 → decodeWord .frame w = .ok (.rxFrameEnd (cmdBit8 w))) ∧
  (∀ p : Params, decodeFrame p [] false = .frameTooShort 0) ∧
  (∀ p : Params, p.crcInvert = true →
    decodeFrame p [0x80#8, 0x23#8, 0xCC#8, 0x00#8, 0x00#8] false = .ok 0x80#8 0xCC23#16 0xCC23#16 0x0000#16 5 []) ∧
  ∀ (eoc : Bool) (s : State), s.resetDone = true → s.res.valid = false →
    ∃ (r : Res) (d : Nat),
      exec (.rxFrameEnd eoc) s = .next { s with
        inFrame := false, acc := [], ovf := false
        discard := if s.params.frameMode = .firstPerChunk ∧ eoc = false then true else s.discard
        res := r, draws := d } ∧
      r.valid = true ∧ r.status = (decodeFrame s.params s.acc s.ovf).status ∧
      ∀ (blank : Res) (f : ResField), carries r.status f = true →
        r.agreeOn ((decodeFrame s.params s.acc s.ovf).record blank) f

/-- R124: in FRAME every other RX word is RX.FRAME.DATA; the byte is appended while there is room, else the overflow is noted
and the byte dropped; nothing else changes. -/
def Obligations.RxFrameDataStoresByte : Prop :=
  (∀ w : CmdWord, w &&& 0x600#11 = 0x000#11 → w &&& 0x6FF#11 ≠ 0x0C0#11 →
    decodeWord .frame w = .ok (.rxFrameData (cmdBit8 w) (cmdByte w))) ∧
  ∀ (eoc : Bool) (b : Byte) (s : State), b ≠ 0xC0#8 → s.resetDone = true → s.res.valid = false →
    (s.acc.length < s.params.maxRawLen →
      exec (.rxFrameData eoc b) s = .next { s with acc := s.acc ++ [b] }) ∧
    (s.params.maxRawLen ≤ s.acc.length → exec (.rxFrameData eoc b) s = .next { s with ovf := true })

/-- R125: in DISCARD an RX word with `eoc = 0` is RX.DISCARD.DROP, and it changes nothing. -/
def Obligations.RxDiscardDropKeepsState : Prop :=
  (∀ w : CmdWord, w &&& 0x700#11 = 0x000#11 → decodeWord .discard w = .ok (.rxDiscardDrop (cmdByte w))) ∧
  ∀ (b : Byte) (s : State), s.resetDone = true → s.res.valid = false → exec (.rxDiscardDrop b) s = .next s

/-- R126: in DISCARD an RX word with `eoc = 1` is RX.DISCARD.LAST; it clears `discard` and changes nothing else, so a framer
that was not in a frame is in HUNT. -/
def Obligations.RxDiscardLastEndsDiscard : Prop :=
  (∀ w : CmdWord, w &&& 0x700#11 = 0x100#11 → decodeWord .discard w = .ok (.rxDiscardLast (cmdByte w))) ∧
  (∀ (b : Byte) (s : State), s.resetDone = true → s.res.valid = false →
    exec (.rxDiscardLast b) s = .next { s with discard := false }) ∧
  ∀ s : State, s.inFrame = false → ({ s with discard := false } : State).framerState = .hunt

/-- R120: an RX word is `(eoc << 8) | byte` and decodes by the order of the rule's tests; while a result waits every RX is
held: nothing changes, and the byte stays with the producer. That the hold, which the rule calls no step, is an `exec` that
answers the same state and a `step` that passes only the producer's turn is the model's form (DEDUCED, log 14). -/
def Obligations.RxHeldWhileResultWaits : Prop :=
  (∀ (s : State) (eoc : Bool) (b : Byte),
    (rxWord eoc b).toNat = (if eoc then 256 else 0) + b.toNat ∧
    decodeWord s.framerState (rxWord eoc b) = .ok
      (if s.discard then (if eoc then .rxDiscardLast b else .rxDiscardDrop b)
       else if s.inFrame then (if b = 0xC0#8 then .rxFrameEnd eoc else .rxFrameData eoc b)
       else (if b = 0x5A#8 then .rxHuntStart eoc else .rxHuntSkip eoc b))) ∧
  (∀ (i : Instr) (s : State), i.isRx = true → s.resetDone = true → s.res.valid = true → exec i s = .next s) ∧
  ∀ (s : State) (ts : List Turn) (eoc : Bool) (b : Byte) (rest : List CmdWord),
    s.turns = .producer :: ts → s.producerQ = rxWord eoc b :: rest → s.resetDone = true → s.res.valid = true →
    step s = .next { s with turns := ts }

/-- R127: in ALL_FRAMES `eoc` has no effect outside DISCARD (unspecified result fields are not compared), and in either mode it
never changes what an RX outside DISCARD does to `in_frame`, `acc` and `ovf`. -/
def Obligations.ChunkBoundaryIsInvisible : Prop :=
  ∀ (s : State) (b : Byte) (ctx : FramerState), ctx ≠ .discard →
    (s.params.frameMode = .allFrames → answersAgree (exec (decodeRx ctx true b) s) (exec (decodeRx ctx false b) s)) ∧
    ∀ t u, exec (decodeRx ctx true b) s = .next t → exec (decodeRx ctx false b) s = .next u →
      t.inFrame = u.inFrame ∧ t.acc = u.acc ∧ t.ovf = u.ovf

/-- One chunk gives at most one result in FIRST_PER_CHUNK (R128), from every state: a result that waits before the chunk is taken
first and is none of the chunk's (the model's reading, log 17). -/
def Obligations.FirstPerChunkGivesAtMostOne : Prop :=
  ∀ (s t : State) (chunk : List Byte) (rs : List Res),
    s.params.frameMode = .firstPerChunk → decodeIncremental chunk s = some (t, rs) → rs.length ≤ 1

/-- R129: from HUNT, an encoded frame that fits the bound, fed as one chunk, gives exactly one result, the decode of the escaped
packet, which is the accumulator just before the END and whose de-escaping is the packet; the framer is in HUNT again. It holds in
both values of FRAME_MODE. -/
def Obligations.ReceiveRoundTrip : Prop :=
  ∀ (P : List Byte) (s : State),
    s.resetDone = true → s.res.valid = false → s.inFrame = false → s.discard = false →
    (encodeFrame P).length - 2 ≤ s.params.maxRawLen →
    ∃ (t : State) (r : Res),
      decodeIncremental (encodeFrame P) s = some (t, [r]) ∧ t.framerState = .hunt ∧ t.acc = [] ∧
      (∃ u, receiveWords (rxWords false (encodeFrame P).dropLast) s = some (u, []) ∧ u.framerState = .frame ∧
        u.acc = P.flatMap escOf ∧ u.ovf = false) ∧
      r.valid = true ∧ r.status = (decodeFrame s.params (P.flatMap escOf) false).status ∧
      (∀ (blank : Res) (f : ResField), carries r.status f = true →
        r.agreeOn ((decodeFrame s.params (P.flatMap escOf) false).record blank) f) ∧
      deescape s.params.escUnknownMode (P.flatMap escOf) = P

/-- R130: however an encoded frame is split into non-empty chunks, feeding them one at a time from HUNT gives what feeding it
whole gives: the same state and results as far as the spec fixes them (unspecified result fields are not compared). It holds in
both values of FRAME_MODE. -/
def Obligations.ChunkSplittingIsInvisible : Prop :=
  ∀ (P : List Byte) (chunks : List (List Byte)) (s : State),
    s.resetDone = true → s.res.valid = false → s.inFrame = false → s.discard = false →
    (∀ c ∈ chunks, c ≠ []) → chunks.flatten = encodeFrame P →
    ∃ x, decodeChunks chunks s = some x ∧ receptionsAgree (some x) (decodeIncremental (encodeFrame P) s)

/-! ## De-escaper -/

/-- R150 to R156: the de-escaper scans from left to right by the window's row, and each row has its output and how much it
consumes. -/
def Obligations.DeescapeFollowsCases : Prop :=
  ∀ mode : EscUnknownMode,
    deescape mode [] = [] ∧
    (∀ (b : Byte) (rest : List Byte), b ≠ 0xDB#8 →
      decodeWindow (window b rest.head?) = .deLit b rest.head? ∧ deescape mode (b :: rest) = b :: deescape mode rest) ∧
    (∀ rest : List Byte,
      decodeWindow (window 0xDB#8 (some 0xDC#8)) = .deEscEnd ∧
      deescape mode (0xDB#8 :: 0xDC#8 :: rest) = 0xC0#8 :: deescape mode rest) ∧
    (∀ rest : List Byte,
      decodeWindow (window 0xDB#8 (some 0xDD#8)) = .deEscEsc ∧
      deescape mode (0xDB#8 :: 0xDD#8 :: rest) = 0xDB#8 :: deescape mode rest) ∧
    (∀ rest : List Byte,
      decodeWindow (window 0xDB#8 (some 0xDE#8)) = .deEscStart ∧
      deescape mode (0xDB#8 :: 0xDE#8 :: rest) = 0x5A#8 :: deescape mode rest) ∧
    (∀ (c : Byte) (rest : List Byte), c ≠ 0xDC#8 → c ≠ 0xDD#8 → c ≠ 0xDE#8 →
      decodeWindow (window 0xDB#8 (some c)) = .deEscBad c ∧
      (mode = .dropEsc → deescape mode (0xDB#8 :: c :: rest) = deescape mode (c :: rest)) ∧
      (mode = .dropPair → deescape mode (0xDB#8 :: c :: rest) = deescape mode rest)) ∧
    (decodeWindow (window 0xDB#8 none) = .deEscTrail ∧ deescape mode [0xDB#8] = [])

/-- The six de-escape rows, each run as one step of the scan, append their output and advance by what they consume, and change
nothing else (R151 to R156; that the scan's working variables stand in State is the model's choice, log 8). -/
def Obligations.WindowCasesComplete : Prop :=
  ∀ s : State,
    exec .deEscEnd s = .next { s with deOut := s.deOut ++ [0xC0#8], deRaw := s.deRaw.drop 2 } ∧
    exec .deEscEsc s = .next { s with deOut := s.deOut ++ [0xDB#8], deRaw := s.deRaw.drop 2 } ∧
    exec .deEscStart s = .next { s with deOut := s.deOut ++ [0x5A#8], deRaw := s.deRaw.drop 2 } ∧
    (∀ c : Byte, exec (.deEscBad c) s = .next { s with
      deRaw := s.deRaw.drop (if s.params.escUnknownMode = .dropEsc then 1 else 2) }) ∧
    exec .deEscTrail s = .next { s with deRaw := s.deRaw.drop 1 } ∧
    ∀ (b : Byte) (n : Option Byte),
      exec (.deLit b n) s = .next { s with deOut := s.deOut ++ [b], deRaw := s.deRaw.drop 1 }

/-- Run to its end one window at a time, the scan of a raw frame outputs what the de-escaper gives for it and reads all of it
(R76, R150; that a scan can be single-stepped is the model's choice, log 8). -/
def Obligations.ScanRunsDeescape : Prop :=
  ∀ (s : State) (ts : List Turn),
    s.turns = List.replicate s.deRaw.length .deescaper ++ ts →
    ∃ u, runSteps s.deRaw.length s = .next { s with
      turns := ts, deRaw := [], deOut := s.deOut ++ u } ∧ u = deescape s.params.escUnknownMode s.deRaw

/-- R157: de-escaping undoes the encoder's escaping, in both modes. -/
def Obligations.DeescapeUndoesEscaping : Prop :=
  ∀ (mode : EscUnknownMode) (P : List Byte), deescape mode (P.flatMap escOf) = P

/-- R158: de-escaping never lengthens, keeps the length exactly where there is no ESC, and gives what de-escaping byte by byte
with a pending flag gives. -/
def Obligations.DeescapeLengthAndStreaming : Prop :=
  ∀ (mode : EscUnknownMode) (raw : List Byte),
    (deescape mode raw).length ≤ raw.length ∧
    ((deescape mode raw).length = raw.length ↔ 0xDB#8 ∉ raw) ∧
    deescapeStream mode false raw = deescape mode raw

/-! ## CRC -/

/-- R173: the CRC of the empty input with init 0 is 0. -/
def Obligations.CrcOfEmptyIsZero : Prop := crc16 true [] 0x0000#16 = 0x0000#16

/-- Check values of the CRC in both variants, and the eight shifts of a byte (R170 to R172; 95_test_vectors.md V-CRC-5, V-CRC-6,
V-CRC-14). -/
def Obligations.CrcCheckValues : Prop :=
  crc16 true [0x31#8, 0x32#8, 0x33#8, 0x34#8, 0x35#8, 0x36#8, 0x37#8, 0x38#8, 0x39#8] 0x0000#16 = 0xD64E#16 ∧
  crc16 false [0x31#8, 0x32#8, 0x33#8, 0x34#8, 0x35#8, 0x36#8, 0x37#8, 0x38#8, 0x39#8] 0x0000#16 = 0x31C3#16 ∧
  crc16 true [0x80#8, 0x00#8, 0x00#8, 0x00#8, 0x00#8] 0x0000#16 = 0xCC23#16 ∧ crcByte 0xFFFF#16 0x00#8 = 0xE1F0#16

/-- R174: with the inverting routine, the CRC of the rest started from the CRC of the front is the CRC of the whole. -/
def Obligations.CrcChains : Prop :=
  ∀ a b : List Byte, crc16 true b (crc16 true a 0x0000#16) = crc16 true (a ++ b) 0x0000#16

/-- R175: for inputs of equal length the difference of the CRCs depends only on the difference of the inputs, and inputs that
differ in one byte, a single bit of it or more, have different CRCs. It holds in both variants. -/
def Obligations.CrcDetectsOneByteErrors : Prop :=
  (∀ (inv : Bool) (x y x' y' : List Byte), x.length = y.length → x'.length = y'.length →
    List.zipWith (· ^^^ ·) x y = List.zipWith (· ^^^ ·) x' y' →
    crc16 inv x 0x0000#16 ^^^ crc16 inv y 0x0000#16 = crc16 inv x' 0x0000#16 ^^^ crc16 inv y' 0x0000#16) ∧
  ∀ (inv : Bool) (a d : List Byte) (b c : Byte), b ≠ c →
    crc16 inv (a ++ b :: d) 0x0000#16 ≠ crc16 inv (a ++ c :: d) 0x0000#16

/-! ## Frame decoder -/

/-- The fields of a frame are little-endian (R44). -/
def Obligations.FieldsAreLittleEndian : Prop :=
  ∀ (f : List Byte) (k : Nat), (le16 f k).toNat = (f.getD k 0x00#8).toNat + 256 * (f.getD (k + 1) 0x00#8).toNat

/-- R206, with the fields each status lists (R190 to R199): the outcome of a completed frame by its overflow flag, its
de-escaped length and whether its CRC field matches the CRC of the frame with that field zeroed. -/
def Obligations.FrameOutcomeTable : Prop :=
  ∀ (p : Params) (raw f : List Byte) (c : Half),
    f = deescape p.escUnknownMode raw → c = crc16 p.crcInvert ((f.set 1 0x00#8).set 2 0x00#8) 0x0000#16 →
    decodeFrame p raw true = .frameTooLong ∧
    (f.length < 3 → decodeFrame p raw false = .frameTooShort f.length) ∧
    (3 ≤ f.length → le16 f 1 ≠ c → decodeFrame p raw false = .crcMismatch (le16 f 1) c f.length) ∧
    (3 ≤ f.length → f.length < 5 → le16 f 1 = c →
      decodeFrame p raw false = .headerTruncated (byteAt f 0) (le16 f 1) c f.length) ∧
    (5 ≤ f.length → le16 f 1 = c →
      decodeFrame p raw false = .ok (byteAt f 0) (le16 f 1) c (le16 f 3) f.length (f.drop 5))

/-- R177: a sealed packet, whatever its type, its `len` field and its payload, is received OK with exactly those three. -/
def Obligations.SealedPacketIsAccepted : Prop :=
  ∀ (p : Params) (t : Byte) (len : Half) (pl : List Byte),
    ∃ c, decodeFrame p ((sealPacket p t len pl).flatMap escOf) false = .ok t c c len (pl.length + 5) pl

/-- R231: whatever its status, a completed frame leaves the framer out of FRAME with an empty accumulator, in HUNT or DISCARD as
the mode says, with the parameters and the transmit state untouched; and once the result is taken the block is exactly as after
any other frame: from two states that differ only in the accumulated bytes and the overflow flag, RX.FRAME.END and TAKE give the
same answer as far as the spec fixes it (unspecified result fields are not compared). -/
def Obligations.FrameErrorsAreNonFatal : Prop :=
  (∀ (eoc : Bool) (s : State), s.resetDone = true → s.res.valid = false → s.discard = false →
    ∃ t, exec (.rxFrameEnd eoc) s = .next t ∧ t.acc = [] ∧ t.ovf = false ∧ t.inFrame = false ∧
      t.framerState = (if s.params.frameMode = .firstPerChunk ∧ eoc = false then .discard else .hunt) ∧
      t.params = s.params ∧ t.txOpen = s.txOpen ∧ t.txOut = s.txOut) ∧
  ∀ (eoc : Bool) (s : State) (a : List Byte) (o : Bool), s.res.valid = false →
    answersAgree (bothInOrder (.rxFrameEnd eoc) .take s)
      (bothInOrder (.rxFrameEnd eoc) .take { s with acc := a, ovf := o })

/-- The record of a frame depends on the frame, the overflow flag and the parameters alone, up to the unspecified fields: two
states that agree in those give results that agree wherever the spec fixes them (R205). -/
def Obligations.ResultDependsOnlyOnFrame : Prop :=
  ∀ (eoc : Bool) (s u s' u' : State),
    s.acc = u.acc → s.ovf = u.ovf → s.params = u.params → s.res.valid = false → u.res.valid = false →
    exec (.rxFrameEnd eoc) s = .next s' → exec (.rxFrameEnd eoc) u = .next u' → s'.res.sameSpecified u'.res

/-! ## Result register and reset -/

/-- R203: TAKE clears `valid` of a waiting result, its other fields becoming unspecified, which enables a held RX; with no result
waiting it changes nothing; it is never held and touches neither the framer nor the transmit state. -/
def Obligations.TakeReleasesResult : Prop :=
  (∀ ctx : FramerState, decodeWord ctx 0x200#11 = .ok .take) ∧
  (∀ s : State, s.resetDone = true → s.res.valid = true →
    ∃ (r : Res) (d : Nat), exec .take s = .next { s with res := r, draws := d } ∧ r.valid = false ∧
      ({ s with res := r, draws := d } : State).rxHeld = false) ∧
  ∀ s : State, s.resetDone = true → s.res.valid = false → exec .take s = .next s

/-- R260: RESET goes on from every state, sets the receive and transmit flags to the values of R30, discards the accumulator and
a waiting result, and leaves `tx_out` as it is; `STATUS` is 0 afterwards. -/
def Obligations.ResetRestoresCleanState : Prop :=
  (∀ ctx : FramerState, decodeWord ctx 0x201#11 = .ok .reset) ∧
  ∀ s : State, ∃ (r : Res) (d : Nat) (t : State), exec .reset s = .next t ∧
    t = { s with
      inFrame := false, acc := [], ovf := false, discard := false, res := r, draws := d, txOpen := false,
      resetDone := true } ∧
    r.valid = false ∧ t.statusView = 0x00#8

/-- R262: before the first RESET every operation but RESET is refused, by instruction and by issued word, and from power-on
RESET gives the clean entry state of R265. -/
def Obligations.OnlyResetBeforeReset : Prop :=
  (∀ (s : State) (i : Instr), s.resetDone = false → i.isWindowCase = false → i ≠ .reset →
    exec i s = .refused .beforeReset) ∧
  (∀ (s : State) (t : Turn) (ts : List Turn) (w : CmdWord) (rest : List CmdWord) (i : Instr),
    s.resetDone = false → s.turns = t :: ts → s.queue t = w :: rest → decodeWord s.framerState w = .ok i →
    i ≠ .reset → step s = .refused .beforeReset) ∧
  ∀ s : State, atPowerOn s → ∃ t, exec .reset s = .next t ∧ cleanEntry t

/-- R265: the state after reset is the clean entry state, with no RX held, for every choice of the parameters; and it is the
state one RESET gives right after power-on, up to the free values and the agents' side. -/
def Obligations.ResetIsCleanEntry : Prop :=
  (∀ p : Params, cleanEntry (State.resetWith p) ∧ (State.resetWith p).rxHeld = false) ∧
  ∀ s : State, atPowerOn s → ∃ (r : Res) (d : Nat), exec .reset s = .next { State.resetWith s.params with
    res := r, draws := d, deRaw := s.deRaw, deOut := s.deOut, producerQ := s.producerQ, consumerQ := s.consumerQ,
    clientQ := s.clientQ, turns := s.turns, taken := s.taken, wire := s.wire } ∧ r.valid = false

/-! ## The whole machine -/

/-- When the party at turn has a word that decodes and is not held, the step is the instruction's `exec`, after the turn and the
word are consumed and, for a TAKE of a waiting result, the record is noted as read (log 4, log 9). Each party's words are its own
list, and consuming one writes that list alone: after a step that goes on, the list is what stood behind the word, the other two
lists are as they were, and the turn has passed. -/
def Obligations.StepRunsDecodedInstruction : Prop :=
  (∀ (s : State) (t : Turn) (ts : List Turn) (w : CmdWord) (rest : List CmdWord) (i : Instr),
    s.turns = t :: ts → s.queue t = w :: rest → decodeWord s.framerState w = .ok i → held i s = false →
    step s = exec i (({ s with turns := ts }.recordRead i).setQueue t rest)) ∧
  (∀ (s : State) (q : List CmdWord) (i : Instr),
    s.queue .producer = s.producerQ ∧ s.queue .consumer = s.consumerQ ∧ s.queue .client = s.clientQ ∧
    s.setQueue .producer q = { s with producerQ := q } ∧ s.setQueue .consumer q = { s with consumerQ := q } ∧
    s.setQueue .client q = { s with clientQ := q } ∧
    s.recordRead i = { s with taken := if i = .take ∧ s.res.valid = true then s.taken ++ [s.res] else s.taken }) ∧
  ∀ (s u : State) (ts : List Turn) (w : CmdWord) (rest : List CmdWord) (i : Instr),
    decodeWord s.framerState w = .ok i → held i s = false → step s = .next u →
    (s.turns = .producer :: ts → s.producerQ = w :: rest →
      u.producerQ = rest ∧ u.consumerQ = s.consumerQ ∧ u.clientQ = s.clientQ ∧ u.turns = ts) ∧
    (s.turns = .consumer :: ts → s.consumerQ = w :: rest →
      u.consumerQ = rest ∧ u.producerQ = s.producerQ ∧ u.clientQ = s.clientQ ∧ u.turns = ts) ∧
    (s.turns = .client :: ts → s.clientQ = w :: rest →
      u.clientQ = rest ∧ u.producerQ = s.producerQ ∧ u.consumerQ = s.consumerQ ∧ u.turns = ts)

/-- The steps that issue no word: with no turn left nothing moves, a party with no word only passes its turn, the wire sink takes
the front byte of the transmit stream (R272) or passes where there is none, and a scan with bytes left runs the case of its window
(R76, log 8), a finished scan only passing its turn. Turns are the model's choice (log 4). -/
def Obligations.OtherStepsAreTheAgents : Prop :=
  (∀ s : State, s.turns = [] → step s = .next s) ∧
  (∀ (s : State) (t : Turn) (ts : List Turn), s.turns = t :: ts → t = .producer ∨ t = .consumer ∨ t = .client →
    s.queue t = [] → step s = .next { s with turns := ts }) ∧
  (∀ (s : State) (ts : List Turn) (b : Byte) (rest : List Byte), s.turns = .wireSink :: ts → s.txOut = b :: rest →
    step s = .next { s with turns := ts, txOut := rest, wire := s.wire ++ [b] }) ∧
  (∀ (s : State) (ts : List Turn), s.turns = .wireSink :: ts → s.txOut = [] → step s = .next { s with turns := ts }) ∧
  (∀ (s : State) (ts : List Turn) (b : Byte) (rest : List Byte), s.turns = .deescaper :: ts → s.deRaw = b :: rest →
    step s = exec (decodeWindow (window b rest.head?)) { s with turns := ts }) ∧
  ∀ (s : State) (ts : List Turn), s.turns = .deescaper :: ts → s.deRaw = [] → step s = .next { s with turns := ts }

/-- A TAKE issued while a result waits hands the consumer the whole record that was in the register, and frees it (R203, R273;
log 9 for where the record is noted). -/
def Obligations.ConsumerGetsWaitingRecord : Prop :=
  ∀ (s : State) (ts : List Turn) (rest : List CmdWord),
    s.turns = .consumer :: ts → s.consumerQ = 0x200#11 :: rest → s.resetDone = true → s.res.valid = true →
    ∃ t, step s = .next t ∧ t.taken = s.taken ++ [s.res] ∧ t.res.valid = false ∧ t.consumerQ = rest

/-- Every step keeps the framer's invariants of R25, from every state. -/
def Obligations.StepKeepsFramerInvariant : Prop :=
  ∀ s t : State, framerSound s → step s = .next t → framerSound t

/-- The state after reset meets the framer's invariants (R25) and the result register's. -/
def Obligations.ResetMeetsInvariants : Prop := ∀ p : Params, blockSound (State.resetWith p)

/-- R25: in every reachable state after the first RESET the invariants hold, and the framer is in FRAME exactly when `in_frame`
is 1, in DISCARD exactly when `discard` is 1, and in HUNT exactly when both are 0. -/
def Obligations.ReachableStatesAreSound : Prop :=
  ∀ s : State, Reachable s → s.resetDone = true →
    framerInv s ∧ (s.framerState = .frame ↔ s.inFrame = true) ∧ (s.framerState = .discard ↔ s.discard = true) ∧
    (s.framerState = .hunt ↔ s.inFrame = false ∧ s.discard = false)

/-- Every step keeps what a waiting record says of itself (R26, R27, R199, R206): the range of `flen`, the length of the payload,
equal or different CRC fields and the length range of each status. (That an unspecified `flen` stays in R26's range is the model's
choice, log 12.) -/
def Obligations.StepKeepsResultInvariant : Prop :=
  ∀ s t : State, blockSound s → step s = .next t → blockSound t

/-- No step changes the parameters (R5, R55). -/
def Obligations.ParametersNeverChange : Prop := ∀ s t : State, step s = .next t → t.params = s.params

/-- A waiting result is never overwritten: only TAKE and RESET change the register while `valid` is 1 (R51, R202, R238), and a
step leaves it as it was or frees it. -/
def Obligations.WaitingResultIsKept : Prop :=
  (∀ (i : Instr) (s t : State), s.res.valid = true → i ≠ .take → i ≠ .reset → exec i s = .next t → t.res = s.res) ∧
  ∀ s t : State, s.res.valid = true → step s = .next t → t.res = s.res ∨ t.res.valid = false

/-- R29: an operation only appends to the transmit stream, and only the transmit operations write it; a step in which the wire sink
has the turn removes the front byte, if there is one, and every other step only appends. -/
def Obligations.TransmitStreamIsAppendOnly : Prop :=
  (∀ (i : Instr) (s t : State), exec i s = .next t →
    s.txOut <+: t.txOut ∧ (i.isTx = false → t.txOut = s.txOut)) ∧
  ∀ s t : State, step s = .next t →
    (s.turns.head? = some .wireSink → t.txOut = s.txOut.drop 1) ∧
    (s.turns.head? ≠ some .wireSink → s.txOut <+: t.txOut)

/-- The frame of the RX rows: they change nothing but the receive framer's elements, the result register and the model's counter
of free values. -/
def Obligations.RxFrame : Prop :=
  ∀ (i : Instr) (s t : State), i.isRx = true → exec i s = .next t →
    t = { s with
      inFrame := t.inFrame, acc := t.acc, ovf := t.ovf, discard := t.discard, res := t.res, draws := t.draws }

/-- The frame of the TX rows: they change nothing but the transmit stream and its flag (R109). -/
def Obligations.TxFrame : Prop :=
  ∀ (i : Instr) (s t : State), i.isTx = true → exec i s = .next t →
    t = { s with txOut := t.txOut, txOpen := t.txOpen }

/-- No instruction touches the agents' side: what they have still to issue, whose turn it is, and what they got. -/
def Obligations.ExecLeavesAgentsAlone : Prop :=
  ∀ (i : Instr) (s t : State), exec i s = .next t →
    t.producerQ = s.producerQ ∧ t.consumerQ = s.consumerQ ∧ t.clientQ = s.clientQ ∧ t.turns = s.turns ∧
    t.taken = s.taken ∧ t.wire = s.wire

/-- R53: an RX and a transmit operation may be taken in either order with the same effect (unspecified result fields are not
compared), the two paths share no state, and only RESET changes both. -/
def Obligations.ReceiveAndTransmitCommute : Prop :=
  (∀ (i j : Instr) (s : State), i.isRx = true → j.isTx = true →
    answersAgree (bothInOrder i j s) (bothInOrder j i s)) ∧
  ∀ (i : Instr) (s t : State), i ≠ .reset → exec i s = .next t →
    t.txOut = s.txOut ∧ t.txOpen = s.txOpen ∨
    t.inFrame = s.inFrame ∧ t.acc = s.acc ∧ t.ovf = s.ovf ∧ t.discard = s.discard ∧ t.res = s.res

/-- In DISCARD, bytes whose `eoc` is 0 are all dropped: the framer stays in DISCARD, however many the producer sends (R125, R267). -/
def Obligations.DiscardLastsUntilChunkEnd : Prop :=
  ∀ (bytes : List Byte) (s : State), s.resetDone = true → s.res.valid = false → s.discard = true →
    receiveWords (rxWords false bytes) s = some (s, [])
end

