-- ==== Sys2Proof/Laws/State.lean ====
section
/-! SUPPORT. One lemma per field per update of the state, each true by unfolding the update. -/

namespace Sys2Proof.Machine

variable (s : State)

/-! ### `State.emit` -/

@[simp] theorem State.emit_inFrame (bs : List Byte) : (s.emit bs).inFrame = s.inFrame := rfl
@[simp] theorem State.emit_acc (bs : List Byte) : (s.emit bs).acc = s.acc := rfl
@[simp] theorem State.emit_ovf (bs : List Byte) : (s.emit bs).ovf = s.ovf := rfl
@[simp] theorem State.emit_discard (bs : List Byte) : (s.emit bs).discard = s.discard := rfl
@[simp] theorem State.emit_res (bs : List Byte) : (s.emit bs).res = s.res := rfl
@[simp] theorem State.emit_txOpen (bs : List Byte) : (s.emit bs).txOpen = s.txOpen := rfl
@[simp] theorem State.emit_txOut (bs : List Byte) : (s.emit bs).txOut = s.txOut ++ bs := rfl
@[simp] theorem State.emit_resetDone (bs : List Byte) : (s.emit bs).resetDone = s.resetDone := rfl
@[simp] theorem State.emit_params (bs : List Byte) : (s.emit bs).params = s.params := rfl
@[simp] theorem State.emit_draws (bs : List Byte) : (s.emit bs).draws = s.draws := rfl
@[simp] theorem State.emit_deRaw (bs : List Byte) : (s.emit bs).deRaw = s.deRaw := rfl
@[simp] theorem State.emit_deOut (bs : List Byte) : (s.emit bs).deOut = s.deOut := rfl
@[simp] theorem State.emit_producerQ (bs : List Byte) : (s.emit bs).producerQ = s.producerQ := rfl
@[simp] theorem State.emit_consumerQ (bs : List Byte) : (s.emit bs).consumerQ = s.consumerQ := rfl
@[simp] theorem State.emit_clientQ (bs : List Byte) : (s.emit bs).clientQ = s.clientQ := rfl
@[simp] theorem State.emit_turns (bs : List Byte) : (s.emit bs).turns = s.turns := rfl
@[simp] theorem State.emit_taken (bs : List Byte) : (s.emit bs).taken = s.taken := rfl
@[simp] theorem State.emit_wire (bs : List Byte) : (s.emit bs).wire = s.wire := rfl

/-! ### `State.setTxOpen` -/

@[simp] theorem State.setTxOpen_inFrame (b : Bool) : (s.setTxOpen b).inFrame = s.inFrame := rfl
@[simp] theorem State.setTxOpen_acc (b : Bool) : (s.setTxOpen b).acc = s.acc := rfl
@[simp] theorem State.setTxOpen_ovf (b : Bool) : (s.setTxOpen b).ovf = s.ovf := rfl
@[simp] theorem State.setTxOpen_discard (b : Bool) : (s.setTxOpen b).discard = s.discard := rfl
@[simp] theorem State.setTxOpen_res (b : Bool) : (s.setTxOpen b).res = s.res := rfl
@[simp] theorem State.setTxOpen_txOpen (b : Bool) : (s.setTxOpen b).txOpen = b := rfl
@[simp] theorem State.setTxOpen_txOut (b : Bool) : (s.setTxOpen b).txOut = s.txOut := rfl
@[simp] theorem State.setTxOpen_resetDone (b : Bool) : (s.setTxOpen b).resetDone = s.resetDone := rfl
@[simp] theorem State.setTxOpen_params (b : Bool) : (s.setTxOpen b).params = s.params := rfl
@[simp] theorem State.setTxOpen_draws (b : Bool) : (s.setTxOpen b).draws = s.draws := rfl
@[simp] theorem State.setTxOpen_deRaw (b : Bool) : (s.setTxOpen b).deRaw = s.deRaw := rfl
@[simp] theorem State.setTxOpen_deOut (b : Bool) : (s.setTxOpen b).deOut = s.deOut := rfl
@[simp] theorem State.setTxOpen_producerQ (b : Bool) : (s.setTxOpen b).producerQ = s.producerQ := rfl
@[simp] theorem State.setTxOpen_consumerQ (b : Bool) : (s.setTxOpen b).consumerQ = s.consumerQ := rfl
@[simp] theorem State.setTxOpen_clientQ (b : Bool) : (s.setTxOpen b).clientQ = s.clientQ := rfl
@[simp] theorem State.setTxOpen_turns (b : Bool) : (s.setTxOpen b).turns = s.turns := rfl
@[simp] theorem State.setTxOpen_taken (b : Bool) : (s.setTxOpen b).taken = s.taken := rfl
@[simp] theorem State.setTxOpen_wire (b : Bool) : (s.setTxOpen b).wire = s.wire := rfl

/-! ### `State.enterFrame` -/

@[simp] theorem State.enterFrame_inFrame : s.enterFrame.inFrame = true := rfl
@[simp] theorem State.enterFrame_acc : s.enterFrame.acc = [] := rfl
@[simp] theorem State.enterFrame_ovf : s.enterFrame.ovf = false := rfl
@[simp] theorem State.enterFrame_discard : s.enterFrame.discard = s.discard := rfl
@[simp] theorem State.enterFrame_res : s.enterFrame.res = s.res := rfl
@[simp] theorem State.enterFrame_txOpen : s.enterFrame.txOpen = s.txOpen := rfl
@[simp] theorem State.enterFrame_txOut : s.enterFrame.txOut = s.txOut := rfl
@[simp] theorem State.enterFrame_resetDone : s.enterFrame.resetDone = s.resetDone := rfl
@[simp] theorem State.enterFrame_params : s.enterFrame.params = s.params := rfl
@[simp] theorem State.enterFrame_draws : s.enterFrame.draws = s.draws := rfl
@[simp] theorem State.enterFrame_deRaw : s.enterFrame.deRaw = s.deRaw := rfl
@[simp] theorem State.enterFrame_deOut : s.enterFrame.deOut = s.deOut := rfl
@[simp] theorem State.enterFrame_producerQ : s.enterFrame.producerQ = s.producerQ := rfl
@[simp] theorem State.enterFrame_consumerQ : s.enterFrame.consumerQ = s.consumerQ := rfl
@[simp] theorem State.enterFrame_clientQ : s.enterFrame.clientQ = s.clientQ := rfl
@[simp] theorem State.enterFrame_turns : s.enterFrame.turns = s.turns := rfl
@[simp] theorem State.enterFrame_taken : s.enterFrame.taken = s.taken := rfl
@[simp] theorem State.enterFrame_wire : s.enterFrame.wire = s.wire := rfl

/-! ### `State.leaveFrame` -/

@[simp] theorem State.leaveFrame_inFrame : s.leaveFrame.inFrame = false := rfl
@[simp] theorem State.leaveFrame_acc : s.leaveFrame.acc = [] := rfl
@[simp] theorem State.leaveFrame_ovf : s.leaveFrame.ovf = false := rfl
@[simp] theorem State.leaveFrame_discard : s.leaveFrame.discard = s.discard := rfl
@[simp] theorem State.leaveFrame_res : s.leaveFrame.res = s.res := rfl
@[simp] theorem State.leaveFrame_txOpen : s.leaveFrame.txOpen = s.txOpen := rfl
@[simp] theorem State.leaveFrame_txOut : s.leaveFrame.txOut = s.txOut := rfl
@[simp] theorem State.leaveFrame_resetDone : s.leaveFrame.resetDone = s.resetDone := rfl
@[simp] theorem State.leaveFrame_params : s.leaveFrame.params = s.params := rfl
@[simp] theorem State.leaveFrame_draws : s.leaveFrame.draws = s.draws := rfl
@[simp] theorem State.leaveFrame_deRaw : s.leaveFrame.deRaw = s.deRaw := rfl
@[simp] theorem State.leaveFrame_deOut : s.leaveFrame.deOut = s.deOut := rfl
@[simp] theorem State.leaveFrame_producerQ : s.leaveFrame.producerQ = s.producerQ := rfl
@[simp] theorem State.leaveFrame_consumerQ : s.leaveFrame.consumerQ = s.consumerQ := rfl
@[simp] theorem State.leaveFrame_clientQ : s.leaveFrame.clientQ = s.clientQ := rfl
@[simp] theorem State.leaveFrame_turns : s.leaveFrame.turns = s.turns := rfl
@[simp] theorem State.leaveFrame_taken : s.leaveFrame.taken = s.taken := rfl
@[simp] theorem State.leaveFrame_wire : s.leaveFrame.wire = s.wire := rfl

/-! ### `State.accAppend` -/

@[simp] theorem State.accAppend_inFrame (b : Byte) : (s.accAppend b).inFrame = s.inFrame := rfl
@[simp] theorem State.accAppend_acc (b : Byte) : (s.accAppend b).acc = s.acc ++ [b] := rfl
@[simp] theorem State.accAppend_ovf (b : Byte) : (s.accAppend b).ovf = s.ovf := rfl
@[simp] theorem State.accAppend_discard (b : Byte) : (s.accAppend b).discard = s.discard := rfl
@[simp] theorem State.accAppend_res (b : Byte) : (s.accAppend b).res = s.res := rfl
@[simp] theorem State.accAppend_txOpen (b : Byte) : (s.accAppend b).txOpen = s.txOpen := rfl
@[simp] theorem State.accAppend_txOut (b : Byte) : (s.accAppend b).txOut = s.txOut := rfl
@[simp] theorem State.accAppend_resetDone (b : Byte) : (s.accAppend b).resetDone = s.resetDone := rfl
@[simp] theorem State.accAppend_params (b : Byte) : (s.accAppend b).params = s.params := rfl
@[simp] theorem State.accAppend_draws (b : Byte) : (s.accAppend b).draws = s.draws := rfl
@[simp] theorem State.accAppend_deRaw (b : Byte) : (s.accAppend b).deRaw = s.deRaw := rfl
@[simp] theorem State.accAppend_deOut (b : Byte) : (s.accAppend b).deOut = s.deOut := rfl
@[simp] theorem State.accAppend_producerQ (b : Byte) : (s.accAppend b).producerQ = s.producerQ := rfl
@[simp] theorem State.accAppend_consumerQ (b : Byte) : (s.accAppend b).consumerQ = s.consumerQ := rfl
@[simp] theorem State.accAppend_clientQ (b : Byte) : (s.accAppend b).clientQ = s.clientQ := rfl
@[simp] theorem State.accAppend_turns (b : Byte) : (s.accAppend b).turns = s.turns := rfl
@[simp] theorem State.accAppend_taken (b : Byte) : (s.accAppend b).taken = s.taken := rfl
@[simp] theorem State.accAppend_wire (b : Byte) : (s.accAppend b).wire = s.wire := rfl

/-! ### `State.setOvf` -/

@[simp] theorem State.setOvf_inFrame : s.setOvf.inFrame = s.inFrame := rfl
@[simp] theorem State.setOvf_acc : s.setOvf.acc = s.acc := rfl
@[simp] theorem State.setOvf_ovf : s.setOvf.ovf = true := rfl
@[simp] theorem State.setOvf_discard : s.setOvf.discard = s.discard := rfl
@[simp] theorem State.setOvf_res : s.setOvf.res = s.res := rfl
@[simp] theorem State.setOvf_txOpen : s.setOvf.txOpen = s.txOpen := rfl
@[simp] theorem State.setOvf_txOut : s.setOvf.txOut = s.txOut := rfl
@[simp] theorem State.setOvf_resetDone : s.setOvf.resetDone = s.resetDone := rfl
@[simp] theorem State.setOvf_params : s.setOvf.params = s.params := rfl
@[simp] theorem State.setOvf_draws : s.setOvf.draws = s.draws := rfl
@[simp] theorem State.setOvf_deRaw : s.setOvf.deRaw = s.deRaw := rfl
@[simp] theorem State.setOvf_deOut : s.setOvf.deOut = s.deOut := rfl
@[simp] theorem State.setOvf_producerQ : s.setOvf.producerQ = s.producerQ := rfl
@[simp] theorem State.setOvf_consumerQ : s.setOvf.consumerQ = s.consumerQ := rfl
@[simp] theorem State.setOvf_clientQ : s.setOvf.clientQ = s.clientQ := rfl
@[simp] theorem State.setOvf_turns : s.setOvf.turns = s.turns := rfl
@[simp] theorem State.setOvf_taken : s.setOvf.taken = s.taken := rfl
@[simp] theorem State.setOvf_wire : s.setOvf.wire = s.wire := rfl

/-! ### `State.setDiscard` -/

@[simp] theorem State.setDiscard_inFrame (b : Bool) : (s.setDiscard b).inFrame = s.inFrame := rfl
@[simp] theorem State.setDiscard_acc (b : Bool) : (s.setDiscard b).acc = s.acc := rfl
@[simp] theorem State.setDiscard_ovf (b : Bool) : (s.setDiscard b).ovf = s.ovf := rfl
@[simp] theorem State.setDiscard_discard (b : Bool) : (s.setDiscard b).discard = b := rfl
@[simp] theorem State.setDiscard_res (b : Bool) : (s.setDiscard b).res = s.res := rfl
@[simp] theorem State.setDiscard_txOpen (b : Bool) : (s.setDiscard b).txOpen = s.txOpen := rfl
@[simp] theorem State.setDiscard_txOut (b : Bool) : (s.setDiscard b).txOut = s.txOut := rfl
@[simp] theorem State.setDiscard_resetDone (b : Bool) : (s.setDiscard b).resetDone = s.resetDone := rfl
@[simp] theorem State.setDiscard_params (b : Bool) : (s.setDiscard b).params = s.params := rfl
@[simp] theorem State.setDiscard_draws (b : Bool) : (s.setDiscard b).draws = s.draws := rfl
@[simp] theorem State.setDiscard_deRaw (b : Bool) : (s.setDiscard b).deRaw = s.deRaw := rfl
@[simp] theorem State.setDiscard_deOut (b : Bool) : (s.setDiscard b).deOut = s.deOut := rfl
@[simp] theorem State.setDiscard_producerQ (b : Bool) : (s.setDiscard b).producerQ = s.producerQ := rfl
@[simp] theorem State.setDiscard_consumerQ (b : Bool) : (s.setDiscard b).consumerQ = s.consumerQ := rfl
@[simp] theorem State.setDiscard_clientQ (b : Bool) : (s.setDiscard b).clientQ = s.clientQ := rfl
@[simp] theorem State.setDiscard_turns (b : Bool) : (s.setDiscard b).turns = s.turns := rfl
@[simp] theorem State.setDiscard_taken (b : Bool) : (s.setDiscard b).taken = s.taken := rfl
@[simp] theorem State.setDiscard_wire (b : Bool) : (s.setDiscard b).wire = s.wire := rfl

/-! ### `State.writeResult` -/

@[simp] theorem State.writeResult_inFrame (o : FrameOutcome) : (s.writeResult o).inFrame = s.inFrame := rfl
@[simp] theorem State.writeResult_acc (o : FrameOutcome) : (s.writeResult o).acc = s.acc := rfl
@[simp] theorem State.writeResult_ovf (o : FrameOutcome) : (s.writeResult o).ovf = s.ovf := rfl
@[simp] theorem State.writeResult_discard (o : FrameOutcome) : (s.writeResult o).discard = s.discard := rfl
@[simp] theorem State.writeResult_res (o : FrameOutcome) : (s.writeResult o).res = o.record (Res.unspecified s.params s.draws true) := rfl
@[simp] theorem State.writeResult_txOpen (o : FrameOutcome) : (s.writeResult o).txOpen = s.txOpen := rfl
@[simp] theorem State.writeResult_txOut (o : FrameOutcome) : (s.writeResult o).txOut = s.txOut := rfl
@[simp] theorem State.writeResult_resetDone (o : FrameOutcome) : (s.writeResult o).resetDone = s.resetDone := rfl
@[simp] theorem State.writeResult_params (o : FrameOutcome) : (s.writeResult o).params = s.params := rfl
@[simp] theorem State.writeResult_draws (o : FrameOutcome) : (s.writeResult o).draws = s.draws + 1 := rfl
@[simp] theorem State.writeResult_deRaw (o : FrameOutcome) : (s.writeResult o).deRaw = s.deRaw := rfl
@[simp] theorem State.writeResult_deOut (o : FrameOutcome) : (s.writeResult o).deOut = s.deOut := rfl
@[simp] theorem State.writeResult_producerQ (o : FrameOutcome) : (s.writeResult o).producerQ = s.producerQ := rfl
@[simp] theorem State.writeResult_consumerQ (o : FrameOutcome) : (s.writeResult o).consumerQ = s.consumerQ := rfl
@[simp] theorem State.writeResult_clientQ (o : FrameOutcome) : (s.writeResult o).clientQ = s.clientQ := rfl
@[simp] theorem State.writeResult_turns (o : FrameOutcome) : (s.writeResult o).turns = s.turns := rfl
@[simp] theorem State.writeResult_taken (o : FrameOutcome) : (s.writeResult o).taken = s.taken := rfl
@[simp] theorem State.writeResult_wire (o : FrameOutcome) : (s.writeResult o).wire = s.wire := rfl

/-! ### `State.releaseResult` -/

@[simp] theorem State.releaseResult_inFrame : s.releaseResult.inFrame = s.inFrame := rfl
@[simp] theorem State.releaseResult_acc : s.releaseResult.acc = s.acc := rfl
@[simp] theorem State.releaseResult_ovf : s.releaseResult.ovf = s.ovf := rfl
@[simp] theorem State.releaseResult_discard : s.releaseResult.discard = s.discard := rfl
@[simp] theorem State.releaseResult_res : s.releaseResult.res = Res.unspecified s.params s.draws false := rfl
@[simp] theorem State.releaseResult_txOpen : s.releaseResult.txOpen = s.txOpen := rfl
@[simp] theorem State.releaseResult_txOut : s.releaseResult.txOut = s.txOut := rfl
@[simp] theorem State.releaseResult_resetDone : s.releaseResult.resetDone = s.resetDone := rfl
@[simp] theorem State.releaseResult_params : s.releaseResult.params = s.params := rfl
@[simp] theorem State.releaseResult_draws : s.releaseResult.draws = s.draws + 1 := rfl
@[simp] theorem State.releaseResult_deRaw : s.releaseResult.deRaw = s.deRaw := rfl
@[simp] theorem State.releaseResult_deOut : s.releaseResult.deOut = s.deOut := rfl
@[simp] theorem State.releaseResult_producerQ : s.releaseResult.producerQ = s.producerQ := rfl
@[simp] theorem State.releaseResult_consumerQ : s.releaseResult.consumerQ = s.consumerQ := rfl
@[simp] theorem State.releaseResult_clientQ : s.releaseResult.clientQ = s.clientQ := rfl
@[simp] theorem State.releaseResult_turns : s.releaseResult.turns = s.turns := rfl
@[simp] theorem State.releaseResult_taken : s.releaseResult.taken = s.taken := rfl
@[simp] theorem State.releaseResult_wire : s.releaseResult.wire = s.wire := rfl

/-! ### `State.clear` -/

@[simp] theorem State.clear_inFrame : s.clear.inFrame = false := rfl
@[simp] theorem State.clear_acc : s.clear.acc = [] := rfl
@[simp] theorem State.clear_ovf : s.clear.ovf = false := rfl
@[simp] theorem State.clear_discard : s.clear.discard = false := rfl
@[simp] theorem State.clear_res : s.clear.res = Res.unspecified s.params s.draws false := rfl
@[simp] theorem State.clear_txOpen : s.clear.txOpen = false := rfl
@[simp] theorem State.clear_txOut : s.clear.txOut = s.txOut := rfl
@[simp] theorem State.clear_resetDone : s.clear.resetDone = true := rfl
@[simp] theorem State.clear_params : s.clear.params = s.params := rfl
@[simp] theorem State.clear_draws : s.clear.draws = s.draws + 1 := rfl
@[simp] theorem State.clear_deRaw : s.clear.deRaw = s.deRaw := rfl
@[simp] theorem State.clear_deOut : s.clear.deOut = s.deOut := rfl
@[simp] theorem State.clear_producerQ : s.clear.producerQ = s.producerQ := rfl
@[simp] theorem State.clear_consumerQ : s.clear.consumerQ = s.consumerQ := rfl
@[simp] theorem State.clear_clientQ : s.clear.clientQ = s.clientQ := rfl
@[simp] theorem State.clear_turns : s.clear.turns = s.turns := rfl
@[simp] theorem State.clear_taken : s.clear.taken = s.taken := rfl
@[simp] theorem State.clear_wire : s.clear.wire = s.wire := rfl

/-! ### `State.scanAdvance` -/

@[simp] theorem State.scanAdvance_inFrame (out : List Byte) (n : Nat) : (s.scanAdvance out n).inFrame = s.inFrame := rfl
@[simp] theorem State.scanAdvance_acc (out : List Byte) (n : Nat) : (s.scanAdvance out n).acc = s.acc := rfl
@[simp] theorem State.scanAdvance_ovf (out : List Byte) (n : Nat) : (s.scanAdvance out n).ovf = s.ovf := rfl
@[simp] theorem State.scanAdvance_discard (out : List Byte) (n : Nat) : (s.scanAdvance out n).discard = s.discard := rfl
@[simp] theorem State.scanAdvance_res (out : List Byte) (n : Nat) : (s.scanAdvance out n).res = s.res := rfl
@[simp] theorem State.scanAdvance_txOpen (out : List Byte) (n : Nat) : (s.scanAdvance out n).txOpen = s.txOpen := rfl
@[simp] theorem State.scanAdvance_txOut (out : List Byte) (n : Nat) : (s.scanAdvance out n).txOut = s.txOut := rfl
@[simp] theorem State.scanAdvance_resetDone (out : List Byte) (n : Nat) : (s.scanAdvance out n).resetDone = s.resetDone := rfl
@[simp] theorem State.scanAdvance_params (out : List Byte) (n : Nat) : (s.scanAdvance out n).params = s.params := rfl
@[simp] theorem State.scanAdvance_draws (out : List Byte) (n : Nat) : (s.scanAdvance out n).draws = s.draws := rfl
@[simp] theorem State.scanAdvance_deRaw (out : List Byte) (n : Nat) : (s.scanAdvance out n).deRaw = s.deRaw.drop n := rfl
@[simp] theorem State.scanAdvance_deOut (out : List Byte) (n : Nat) : (s.scanAdvance out n).deOut = s.deOut ++ out := rfl
@[simp] theorem State.scanAdvance_producerQ (out : List Byte) (n : Nat) : (s.scanAdvance out n).producerQ = s.producerQ := rfl
@[simp] theorem State.scanAdvance_consumerQ (out : List Byte) (n : Nat) : (s.scanAdvance out n).consumerQ = s.consumerQ := rfl
@[simp] theorem State.scanAdvance_clientQ (out : List Byte) (n : Nat) : (s.scanAdvance out n).clientQ = s.clientQ := rfl
@[simp] theorem State.scanAdvance_turns (out : List Byte) (n : Nat) : (s.scanAdvance out n).turns = s.turns := rfl
@[simp] theorem State.scanAdvance_taken (out : List Byte) (n : Nat) : (s.scanAdvance out n).taken = s.taken := rfl
@[simp] theorem State.scanAdvance_wire (out : List Byte) (n : Nat) : (s.scanAdvance out n).wire = s.wire := rfl

/-! ### `State.dropTurn` -/

@[simp] theorem State.dropTurn_inFrame : s.dropTurn.inFrame = s.inFrame := rfl
@[simp] theorem State.dropTurn_acc : s.dropTurn.acc = s.acc := rfl
@[simp] theorem State.dropTurn_ovf : s.dropTurn.ovf = s.ovf := rfl
@[simp] theorem State.dropTurn_discard : s.dropTurn.discard = s.discard := rfl
@[simp] theorem State.dropTurn_res : s.dropTurn.res = s.res := rfl
@[simp] theorem State.dropTurn_txOpen : s.dropTurn.txOpen = s.txOpen := rfl
@[simp] theorem State.dropTurn_txOut : s.dropTurn.txOut = s.txOut := rfl
@[simp] theorem State.dropTurn_resetDone : s.dropTurn.resetDone = s.resetDone := rfl
@[simp] theorem State.dropTurn_params : s.dropTurn.params = s.params := rfl
@[simp] theorem State.dropTurn_draws : s.dropTurn.draws = s.draws := rfl
@[simp] theorem State.dropTurn_deRaw : s.dropTurn.deRaw = s.deRaw := rfl
@[simp] theorem State.dropTurn_deOut : s.dropTurn.deOut = s.deOut := rfl
@[simp] theorem State.dropTurn_producerQ : s.dropTurn.producerQ = s.producerQ := rfl
@[simp] theorem State.dropTurn_consumerQ : s.dropTurn.consumerQ = s.consumerQ := rfl
@[simp] theorem State.dropTurn_clientQ : s.dropTurn.clientQ = s.clientQ := rfl
@[simp] theorem State.dropTurn_turns : s.dropTurn.turns = s.turns.drop 1 := rfl
@[simp] theorem State.dropTurn_taken : s.dropTurn.taken = s.taken := rfl
@[simp] theorem State.dropTurn_wire : s.dropTurn.wire = s.wire := rfl

/-! ### `State.sinkByte` -/

@[simp] theorem State.sinkByte_inFrame : s.sinkByte.inFrame = s.inFrame := rfl
@[simp] theorem State.sinkByte_acc : s.sinkByte.acc = s.acc := rfl
@[simp] theorem State.sinkByte_ovf : s.sinkByte.ovf = s.ovf := rfl
@[simp] theorem State.sinkByte_discard : s.sinkByte.discard = s.discard := rfl
@[simp] theorem State.sinkByte_res : s.sinkByte.res = s.res := rfl
@[simp] theorem State.sinkByte_txOpen : s.sinkByte.txOpen = s.txOpen := rfl
@[simp] theorem State.sinkByte_txOut : s.sinkByte.txOut = s.txOut.drop 1 := rfl
@[simp] theorem State.sinkByte_resetDone : s.sinkByte.resetDone = s.resetDone := rfl
@[simp] theorem State.sinkByte_params : s.sinkByte.params = s.params := rfl
@[simp] theorem State.sinkByte_draws : s.sinkByte.draws = s.draws := rfl
@[simp] theorem State.sinkByte_deRaw : s.sinkByte.deRaw = s.deRaw := rfl
@[simp] theorem State.sinkByte_deOut : s.sinkByte.deOut = s.deOut := rfl
@[simp] theorem State.sinkByte_producerQ : s.sinkByte.producerQ = s.producerQ := rfl
@[simp] theorem State.sinkByte_consumerQ : s.sinkByte.consumerQ = s.consumerQ := rfl
@[simp] theorem State.sinkByte_clientQ : s.sinkByte.clientQ = s.clientQ := rfl
@[simp] theorem State.sinkByte_turns : s.sinkByte.turns = s.turns := rfl
@[simp] theorem State.sinkByte_taken : s.sinkByte.taken = s.taken := rfl
@[simp] theorem State.sinkByte_wire : s.sinkByte.wire = s.wire ++ s.txOut.take 1 := rfl

/-! ### `State.placeWord` -/

@[simp] theorem State.placeWord_inFrame (w : CmdWord) : (s.placeWord w).inFrame = s.inFrame := rfl
@[simp] theorem State.placeWord_acc (w : CmdWord) : (s.placeWord w).acc = s.acc := rfl
@[simp] theorem State.placeWord_ovf (w : CmdWord) : (s.placeWord w).ovf = s.ovf := rfl
@[simp] theorem State.placeWord_discard (w : CmdWord) : (s.placeWord w).discard = s.discard := rfl
@[simp] theorem State.placeWord_res (w : CmdWord) : (s.placeWord w).res = s.res := rfl
@[simp] theorem State.placeWord_txOpen (w : CmdWord) : (s.placeWord w).txOpen = s.txOpen := rfl
@[simp] theorem State.placeWord_txOut (w : CmdWord) : (s.placeWord w).txOut = s.txOut := rfl
@[simp] theorem State.placeWord_resetDone (w : CmdWord) : (s.placeWord w).resetDone = s.resetDone := rfl
@[simp] theorem State.placeWord_params (w : CmdWord) : (s.placeWord w).params = s.params := rfl
@[simp] theorem State.placeWord_draws (w : CmdWord) : (s.placeWord w).draws = s.draws := rfl
@[simp] theorem State.placeWord_deRaw (w : CmdWord) : (s.placeWord w).deRaw = s.deRaw := rfl
@[simp] theorem State.placeWord_deOut (w : CmdWord) : (s.placeWord w).deOut = s.deOut := rfl
@[simp] theorem State.placeWord_producerQ (w : CmdWord) : (s.placeWord w).producerQ = s.producerQ := rfl
@[simp] theorem State.placeWord_consumerQ (w : CmdWord) : (s.placeWord w).consumerQ = s.consumerQ := rfl
@[simp] theorem State.placeWord_clientQ (w : CmdWord) : (s.placeWord w).clientQ = w :: s.clientQ := rfl
@[simp] theorem State.placeWord_turns (w : CmdWord) : (s.placeWord w).turns = .client :: s.turns := rfl
@[simp] theorem State.placeWord_taken (w : CmdWord) : (s.placeWord w).taken = s.taken := rfl
@[simp] theorem State.placeWord_wire (w : CmdWord) : (s.placeWord w).wire = s.wire := rfl

/-! ### `State.setQueue` -/

@[simp] theorem State.setQueue_inFrame (t : Turn) (q : List CmdWord) : (s.setQueue t q).inFrame = s.inFrame := by cases t <;> rfl
@[simp] theorem State.setQueue_acc (t : Turn) (q : List CmdWord) : (s.setQueue t q).acc = s.acc := by cases t <;> rfl
@[simp] theorem State.setQueue_ovf (t : Turn) (q : List CmdWord) : (s.setQueue t q).ovf = s.ovf := by cases t <;> rfl
@[simp] theorem State.setQueue_discard (t : Turn) (q : List CmdWord) : (s.setQueue t q).discard = s.discard := by cases t <;> rfl
@[simp] theorem State.setQueue_res (t : Turn) (q : List CmdWord) : (s.setQueue t q).res = s.res := by cases t <;> rfl
@[simp] theorem State.setQueue_txOpen (t : Turn) (q : List CmdWord) : (s.setQueue t q).txOpen = s.txOpen := by cases t <;> rfl
@[simp] theorem State.setQueue_txOut (t : Turn) (q : List CmdWord) : (s.setQueue t q).txOut = s.txOut := by cases t <;> rfl
@[simp] theorem State.setQueue_resetDone (t : Turn) (q : List CmdWord) : (s.setQueue t q).resetDone = s.resetDone := by cases t <;> rfl
@[simp] theorem State.setQueue_params (t : Turn) (q : List CmdWord) : (s.setQueue t q).params = s.params := by cases t <;> rfl
@[simp] theorem State.setQueue_draws (t : Turn) (q : List CmdWord) : (s.setQueue t q).draws = s.draws := by cases t <;> rfl
@[simp] theorem State.setQueue_deRaw (t : Turn) (q : List CmdWord) : (s.setQueue t q).deRaw = s.deRaw := by cases t <;> rfl
@[simp] theorem State.setQueue_deOut (t : Turn) (q : List CmdWord) : (s.setQueue t q).deOut = s.deOut := by cases t <;> rfl
@[simp] theorem State.setQueue_producer_producerQ (q : List CmdWord) : (s.setQueue .producer q).producerQ = q := rfl
@[simp] theorem State.setQueue_consumer_producerQ (q : List CmdWord) : (s.setQueue .consumer q).producerQ = s.producerQ := rfl
@[simp] theorem State.setQueue_client_producerQ (q : List CmdWord) : (s.setQueue .client q).producerQ = s.producerQ := rfl
@[simp] theorem State.setQueue_producer_consumerQ (q : List CmdWord) : (s.setQueue .producer q).consumerQ = s.consumerQ := rfl
@[simp] theorem State.setQueue_consumer_consumerQ (q : List CmdWord) : (s.setQueue .consumer q).consumerQ = q := rfl
@[simp] theorem State.setQueue_client_consumerQ (q : List CmdWord) : (s.setQueue .client q).consumerQ = s.consumerQ := rfl
@[simp] theorem State.setQueue_producer_clientQ (q : List CmdWord) : (s.setQueue .producer q).clientQ = s.clientQ := rfl
@[simp] theorem State.setQueue_consumer_clientQ (q : List CmdWord) : (s.setQueue .consumer q).clientQ = s.clientQ := rfl
@[simp] theorem State.setQueue_client_clientQ (q : List CmdWord) : (s.setQueue .client q).clientQ = q := rfl
@[simp] theorem State.setQueue_turns (t : Turn) (q : List CmdWord) : (s.setQueue t q).turns = s.turns := by cases t <;> rfl
@[simp] theorem State.setQueue_taken (t : Turn) (q : List CmdWord) : (s.setQueue t q).taken = s.taken := by cases t <;> rfl
@[simp] theorem State.setQueue_wire (t : Turn) (q : List CmdWord) : (s.setQueue t q).wire = s.wire := by cases t <;> rfl

/-! ### `State.recordRead` -/

@[simp] theorem State.recordRead_inFrame (i : Instr) : (s.recordRead i).inFrame = s.inFrame := by
  unfold State.recordRead State.readResult; repeat' split
  all_goals rfl
@[simp] theorem State.recordRead_acc (i : Instr) : (s.recordRead i).acc = s.acc := by
  unfold State.recordRead State.readResult; repeat' split
  all_goals rfl
@[simp] theorem State.recordRead_ovf (i : Instr) : (s.recordRead i).ovf = s.ovf := by
  unfold State.recordRead State.readResult; repeat' split
  all_goals rfl
@[simp] theorem State.recordRead_discard (i : Instr) : (s.recordRead i).discard = s.discard := by
  unfold State.recordRead State.readResult; repeat' split
  all_goals rfl
@[simp] theorem State.recordRead_res (i : Instr) : (s.recordRead i).res = s.res := by
  unfold State.recordRead State.readResult; repeat' split
  all_goals rfl
@[simp] theorem State.recordRead_txOpen (i : Instr) : (s.recordRead i).txOpen = s.txOpen := by
  unfold State.recordRead State.readResult; repeat' split
  all_goals rfl
@[simp] theorem State.recordRead_txOut (i : Instr) : (s.recordRead i).txOut = s.txOut := by
  unfold State.recordRead State.readResult; repeat' split
  all_goals rfl
@[simp] theorem State.recordRead_resetDone (i : Instr) : (s.recordRead i).resetDone = s.resetDone := by
  unfold State.recordRead State.readResult; repeat' split
  all_goals rfl
@[simp] theorem State.recordRead_params (i : Instr) : (s.recordRead i).params = s.params := by
  unfold State.recordRead State.readResult; repeat' split
  all_goals rfl
@[simp] theorem State.recordRead_draws (i : Instr) : (s.recordRead i).draws = s.draws := by
  unfold State.recordRead State.readResult; repeat' split
  all_goals rfl
@[simp] theorem State.recordRead_deRaw (i : Instr) : (s.recordRead i).deRaw = s.deRaw := by
  unfold State.recordRead State.readResult; repeat' split
  all_goals rfl
@[simp] theorem State.recordRead_deOut (i : Instr) : (s.recordRead i).deOut = s.deOut := by
  unfold State.recordRead State.readResult; repeat' split
  all_goals rfl
@[simp] theorem State.recordRead_producerQ (i : Instr) : (s.recordRead i).producerQ = s.producerQ := by
  unfold State.recordRead State.readResult; repeat' split
  all_goals rfl
@[simp] theorem State.recordRead_consumerQ (i : Instr) : (s.recordRead i).consumerQ = s.consumerQ := by
  unfold State.recordRead State.readResult; repeat' split
  all_goals rfl
@[simp] theorem State.recordRead_clientQ (i : Instr) : (s.recordRead i).clientQ = s.clientQ := by
  unfold State.recordRead State.readResult; repeat' split
  all_goals rfl
@[simp] theorem State.recordRead_turns (i : Instr) : (s.recordRead i).turns = s.turns := by
  unfold State.recordRead State.readResult; repeat' split
  all_goals rfl
@[simp] theorem State.recordRead_wire (i : Instr) : (s.recordRead i).wire = s.wire := by
  unfold State.recordRead State.readResult; repeat' split
  all_goals rfl

/-! ### Views -/

theorem State.framerState_congr {s t : State} (hd : s.discard = t.discard) (hf : s.inFrame = t.inFrame) :
    s.framerState = t.framerState := by simp only [State.framerState, hd, hf]

@[simp] theorem State.framerState_dropTurn : s.dropTurn.framerState = s.framerState := rfl

@[simp] theorem State.rxHeld_dropTurn : s.dropTurn.rxHeld = s.rxHeld := rfl

@[simp] theorem State.queue_dropTurn (t : Turn) : s.dropTurn.queue t = s.queue t := by cases t <;> rfl

@[simp] theorem Res.unspecified_valid (p : Config.Params) (k : Nat) (v : Bool) : (Res.unspecified p k v).valid = v := rfl

theorem Res.unspecified_flen_le (p : Config.Params) (k : Nat) (v : Bool) :
    (Res.unspecified p k v).flen ≤ p.maxRawLen :=
  Nat.le_of_lt_succ (Nat.mod_lt _ (Nat.succ_pos _))

end Sys2Proof.Machine
end

