-- ==== Sys2Proof/Laws/Ops.lean ====
section
/-! SUPPORT. One lemma per shared operation that says once everything it can do. Provers cite these instead of unfolding
the operations. -/

namespace Sys2Proof.Machine

open Sys2Proof.Config

/-! ## Guards -/

/-- A guarded operation goes on only after the first RESET, and then with its effect (R262). -/
theorem afterReset_next_iff {effect : State → State} {s t : State} :
    afterReset effect s = .next t ↔ s.resetDone = true ∧ t = effect s := by
  unfold afterReset
  split <;> rename_i h
  · exact ⟨fun e => ⟨h, (Host.Outcome.next.inj e).symm⟩, fun e => by rw [e.2]⟩
  · exact ⟨fun e => (by cases e), fun e => absurd e.1 h⟩

/-- Before the first RESET a guarded operation is refused by name (R262). -/
theorem afterReset_before {effect : State → State} {s : State} (h : s.resetDone = false) :
    afterReset effect s = .refused .beforeReset := by simp [afterReset, h]

theorem afterReset_after {effect : State → State} {s : State} (h : s.resetDone = true) :
    afterReset effect s = .next (effect s) := by simp [afterReset, h]

/-- An RX goes on in one of two ways: held, changing nothing, or with its effect (R120). -/
theorem rxOp_next_iff {effect : State → State} {s t : State} :
    rxOp effect s = .next t ↔
      s.resetDone = true ∧ (s.res.valid = true ∧ t = s ∨ s.res.valid = false ∧ t = effect s) := by
  unfold rxOp
  rw [afterReset_next_iff]
  constructor
  · rintro ⟨hr, rfl⟩
    refine ⟨hr, ?_⟩
    cases hv : s.res.valid <;> simp [whenFree, State.rxHeld, hr, hv]
  · rintro ⟨hr, ⟨hv, rfl⟩ | ⟨hv, rfl⟩⟩ <;> simp [whenFree, State.rxHeld, hr, hv]

theorem rxOp_before {effect : State → State} {s : State} (h : s.resetDone = false) :
    rxOp effect s = .refused .beforeReset := afterReset_before h

theorem rxOp_held {effect : State → State} {s : State} (hr : s.resetDone = true) (hv : s.res.valid = true) :
    rxOp effect s = .next s := rxOp_next_iff.2 ⟨hr, .inl ⟨hv, rfl⟩⟩

theorem rxOp_enabled {effect : State → State} {s : State} (hr : s.resetDone = true) (hv : s.res.valid = false) :
    rxOp effect s = .next (effect s) := rxOp_next_iff.2 ⟨hr, .inr ⟨hv, rfl⟩⟩

/-! ## Transmit -/

/-- What opening a frame writes (R100). -/
theorem State.openTx_eq (s : State) :
    s.openTx = { s with txOpen := true, txOut := s.txOut ++ if s.txOpen then [] else [startByte] } := by
  cases s with
  | mk _ _ _ _ _ txOpen => cases txOpen <;> simp [State.openTx, State.emit, State.setTxOpen]

/-- What sending a byte writes (R100 to R104). -/
theorem State.sendByte_eq (bs : List Byte) (s : State) :
    s.sendByte bs =
      { s with txOpen := true, txOut := s.txOut ++ (if s.txOpen then [] else [startByte]) ++ bs } := by
  simp [State.sendByte, State.openTx_eq, State.emit]

/-- What closing a frame writes (R105). -/
theorem State.closeTx_eq (s : State) :
    s.closeTx =
      { s with txOpen := false, txOut := s.txOut ++ (if s.txOpen then [] else [startByte]) ++ [endByte] } := by
  cases s with
  | mk _ _ _ _ _ txOpen => cases txOpen <;> simp [State.closeTx, State.emit, State.setTxOpen]

/-! ## The framer -/

/-- What storing a byte writes (R124). -/
theorem State.storeByte_eq (b : Byte) (s : State) :
    s.storeByte b =
      { s with
        acc := if s.acc.length < s.params.maxRawLen then s.acc ++ [b] else s.acc
        ovf := if s.acc.length < s.params.maxRawLen then s.ovf else true } := by
  unfold State.storeByte
  split <;> rfl

/-- What the end of a frame writes (R123). -/
theorem State.endFrame_eq (eoc : Bool) (s : State) :
    s.endFrame eoc =
      { s with
        inFrame := false, acc := [], ovf := false
        discard := if s.params.frameMode = .firstPerChunk ∧ eoc = false then true else s.discard
        res := (decodeFrame s.params s.acc s.ovf).record (Res.unspecified s.params s.draws true)
        draws := s.draws + 1 } := by
  unfold State.endFrame
  dsimp only
  split <;> rfl

/-! ## The result record -/

@[simp] theorem FrameOutcome.record_valid (blank : Res) (o : FrameOutcome) : (o.record blank).valid = blank.valid := by
  cases o <;> rfl

@[simp] theorem FrameOutcome.record_status (blank : Res) (o : FrameOutcome) : (o.record blank).status = o.status := by
  cases o <;> rfl

/-- Records of one outcome over two blanks agree in every field its status carries (R27, R202). -/
theorem FrameOutcome.record_agreeOn (a b : Res) (o : FrameOutcome) (f : ResField) (h : carries o.status f = true) :
    (o.record a).agreeOn (o.record b) f := by
  cases o <;> cases f <;> first | rfl | cases h

/-! ## The frame decoder -/

/-- Everything the stages of R190 can answer, each with what it says of the frame. -/
theorem decodeDeescaped_cases (p : Params) (f : List Byte) :
    f.length < minFrameLen ∧ decodeDeescaped p f = .frameTooShort f.length ∨
    minFrameLen ≤ f.length ∧ le16 f 1 ≠ frameCrc p f ∧
      decodeDeescaped p f = .crcMismatch (le16 f 1) (frameCrc p f) f.length ∨
    minFrameLen ≤ f.length ∧ f.length < hdrLen ∧ le16 f 1 = frameCrc p f ∧
      decodeDeescaped p f = .headerTruncated (byteAt f 0) (le16 f 1) (frameCrc p f) f.length ∨
    hdrLen ≤ f.length ∧ le16 f 1 = frameCrc p f ∧
      decodeDeescaped p f =
        .ok (byteAt f 0) (le16 f 1) (frameCrc p f) (le16 f 3) f.length (f.drop hdrLen) := by
  unfold decodeDeescaped
  by_cases h3 : f.length < minFrameLen
  · simp [h3]
  · by_cases hc : le16 f 1 = frameCrc p f
    · by_cases h5 : f.length < hdrLen
      · simp only [h3, hc, h5, if_true, if_false, ne_eq, not_true_eq_false]; simp; omega
      · simp only [h3, hc, h5, if_false, ne_eq, not_true_eq_false]; simp; omega
    · simp [h3, hc]; omega

/-! ## The scan -/

/-- A scan with bytes left has the window of its first byte. -/
theorem scanWindow_cons (b : Byte) (rest : List Byte) : scanWindow (b :: rest) = some (window b rest.head?) := by
  cases rest <;> rfl

end Sys2Proof.Machine
end

