-- ==== Sys2Proof/Laws/Step.lean ====
section
/-! SUPPORT. What a step can do, said once: the agents' moves and the step, by cases. -/

namespace Sys2Proof.Machine

/-- What noting a read writes: the record that waits, where the word is TAKE (R203, R273). -/
theorem State.recordRead_eq (s : State) (i : Instr) :
    s.recordRead i = { s with taken := if i = .take ∧ s.res.valid = true then s.taken ++ [s.res] else s.taken } := by
  unfold State.recordRead State.readResult
  by_cases hi : i = .take <;> by_cases hv : s.res.valid = true <;> simp [hi, hv]

/-- Everything the issue of a word can do when it goes on. -/
theorem issue_next {t : Turn} {s s' : State} (h : issue t s = .next s') :
    s.queue t = [] ∧ s' = s ∨
    ∃ w rest i, s.queue t = w :: rest ∧ decodeWord s.framerState w = .ok i ∧
      (held i s = true ∧ s' = s ∨
       held i s = false ∧ exec i ((s.recordRead i).setQueue t rest) = .next s') := by
  unfold issue at h
  split at h
  · rename_i hq
    exact .inl ⟨hq, (Host.Outcome.next.inj h).symm⟩
  · rename_i w rest hq
    split at h
    · cases h
    · rename_i i hd
      refine .inr ⟨w, rest, i, hq, hd, ?_⟩
      split at h
      · rename_i hh
        exact .inl ⟨hh, (Host.Outcome.next.inj h).symm⟩
      · rename_i hh
        exact .inr ⟨by simpa using hh, h⟩

/-- Everything a step can do when it goes on: nobody moves; a party issues; the wire sink takes; the scan advances. -/
theorem step_next {s s' : State} (h : step s = .next s') :
    s.turns = [] ∧ s' = s ∨
    ∃ t ts, s.turns = t :: ts ∧
      ((t = .producer ∨ t = .consumer ∨ t = .client) ∧ issue t s.dropTurn = .next s' ∨
       t = .wireSink ∧ s' = s.dropTurn.sinkByte ∨
       t = .deescaper ∧ scanStep s.dropTurn = .next s') := by
  unfold step takeTurn at h
  split at h
  · rename_i ht
    exact .inl ⟨ht, (Host.Outcome.next.inj h).symm⟩
  · rename_i t ts ht
    refine .inr ⟨t, ts, ht, ?_⟩
    cases t
    · exact .inl ⟨.inl rfl, h⟩
    · exact .inl ⟨.inr (.inl rfl), h⟩
    · exact .inl ⟨.inr (.inr rfl), h⟩
    · exact .inr (.inl ⟨rfl, (Host.Outcome.next.inj h).symm⟩)
    · exact .inr (.inr ⟨rfl, h⟩)

/-- Everything a scan step can do. -/
theorem scanStep_next {s s' : State} (h : scanStep s = .next s') :
    s.deRaw = [] ∧ s' = s ∨
    ∃ b rest, s.deRaw = b :: rest ∧ exec (decodeWindow (window b rest.head?)) s = .next s' := by
  unfold scanStep at h
  cases hr : s.deRaw with
  | nil => simp only [hr, scanWindow] at h; exact .inl ⟨rfl, (Host.Outcome.next.inj h).symm⟩
  | cons b rest => rw [hr, scanWindow_cons] at h; exact .inr ⟨b, rest, rfl, h⟩

/-- The decoder of command words gives an operation, never a window case (R68, R74). -/
theorem decodeWord_isOperation {ctx : FramerState} {w : CmdWord} {i : Instr} (h : decodeWord ctx w = .ok i) :
    i.isWindowCase = false := by
  unfold decodeWord at h
  repeat' split at h
  all_goals first | (cases h; done) | (cases h)
  all_goals first
    | rfl
    | (unfold decodeRx; cases ctx <;> dsimp only <;> split <;> rfl)
    | (unfold decodeTxd; repeat' split
       all_goals rfl)

/-- A window case never gives an operation (R76). -/
theorem decodeWindow_isWindowCase (u : Window) : (decodeWindow u).isWindowCase = true := by
  unfold decodeWindow
  repeat' split
  all_goals rfl

end Sys2Proof.Machine
end

