-- ==== Sys2Proof/Laws/Exec.lean ====
section
/-! SUPPORT. What an instruction can do when it goes on, said once for all rows: the inversion of `exec`. -/

namespace Sys2Proof.Machine

/-- The effect of an RX row once it is enabled. -/
inductive RxEffect : Instr → State → State → Prop where
  | huntStart (eoc : Bool) (s : State) : RxEffect (.rxHuntStart eoc) s s.enterFrame
  | huntSkip (eoc : Bool) (b : Byte) (s : State) : RxEffect (.rxHuntSkip eoc b) s s
  | frameEnd (eoc : Bool) (s : State) : RxEffect (.rxFrameEnd eoc) s (s.endFrame eoc)
  | frameData (eoc : Bool) (b : Byte) (s : State) : RxEffect (.rxFrameData eoc b) s (s.storeByte b)
  | discardLast (b : Byte) (s : State) : RxEffect (.rxDiscardLast b) s (s.setDiscard false)
  | discardDrop (b : Byte) (s : State) : RxEffect (.rxDiscardDrop b) s s

/-- The effect of a transmit row after the first RESET. -/
inductive TxEffect : Instr → State → State → Prop where
  | byteEnd (s : State) : TxEffect .txdEnd s (s.sendByte [escByte, escEnd])
  | byteEsc (s : State) : TxEffect .txdEsc s (s.sendByte [escByte, escEsc])
  | byteStart (s : State) : TxEffect .txdStart s (s.sendByte [escByte, escStart])
  | byteLit (b : Byte) (s : State) : TxEffect (.txdLit b) s (s.sendByte [b])
  | close (s : State) : TxEffect .txe s s.closeTx

/-- Everything an instruction can do when it goes on. -/
inductive ExecEffect (i : Instr) (s t : State) : Prop where
  | held : i.isRx = true → s.resetDone = true → s.res.valid = true → t = s → ExecEffect i s t
  | rx : i.isRx = true → s.resetDone = true → s.res.valid = false → RxEffect i s t → ExecEffect i s t
  | take : i = .take → s.resetDone = true → t = s.takeResult → ExecEffect i s t
  | reset : i = .reset → t = s.clear → ExecEffect i s t
  | tx : i.isTx = true → s.resetDone = true → TxEffect i s t → ExecEffect i s t
  | window (output : List Byte) (consumed : Nat) :
    i.isWindowCase = true → t = s.scanAdvance output consumed → ExecEffect i s t

/-- An RX row that goes on is held or has its effect. -/
theorem rxOp_effect {effect : State → State} {i : Instr} {s t : State} (hi : i.isRx = true)
    (h : rxOp effect s = .next t) (he : RxEffect i s (effect s)) : ExecEffect i s t := by
  obtain ⟨hr, ⟨hv, rfl⟩ | ⟨hv, rfl⟩⟩ := rxOp_next_iff.1 h
  · exact .held hi hr hv rfl
  · exact .rx hi hr hv he

/-- A transmit row that goes on has its effect. -/
theorem txOp_effect {effect : State → State} {i : Instr} {s t : State} (hi : i.isTx = true)
    (h : afterReset effect s = .next t) (he : TxEffect i s (effect s)) : ExecEffect i s t := by
  obtain ⟨hr, rfl⟩ := afterReset_next_iff.1 h
  exact .tx hi hr he

/-- The inversion of `exec`. -/
theorem exec_next {i : Instr} {s t : State} (h : exec i s = .next t) : ExecEffect i s t := by
  cases i with
  | rxHuntStart eoc => exact rxOp_effect rfl h (.huntStart eoc s)
  | rxHuntSkip eoc b => exact rxOp_effect rfl h (.huntSkip eoc b s)
  | rxFrameEnd eoc => exact rxOp_effect rfl h (.frameEnd eoc s)
  | rxFrameData eoc b => exact rxOp_effect rfl h (.frameData eoc b s)
  | rxDiscardLast b => exact rxOp_effect rfl h (.discardLast b s)
  | rxDiscardDrop b => exact rxOp_effect rfl h (.discardDrop b s)
  | take => exact .take rfl (afterReset_next_iff.1 h).1 (afterReset_next_iff.1 h).2
  | reset => exact .reset rfl (Host.Outcome.next.inj h).symm
  | txdEnd => exact txOp_effect rfl h (.byteEnd s)
  | txdEsc => exact txOp_effect rfl h (.byteEsc s)
  | txdStart => exact txOp_effect rfl h (.byteStart s)
  | txdLit b => exact txOp_effect rfl h (.byteLit b s)
  | txe => exact txOp_effect rfl h (.close s)
  | deEscEnd => exact .window _ _ rfl (Host.Outcome.next.inj h).symm
  | deEscEsc => exact .window _ _ rfl (Host.Outcome.next.inj h).symm
  | deEscStart => exact .window _ _ rfl (Host.Outcome.next.inj h).symm
  | deEscBad next => exact .window _ _ rfl (Host.Outcome.next.inj h).symm
  | deEscTrail => exact .window _ _ rfl (Host.Outcome.next.inj h).symm
  | deLit cur next => exact .window _ _ rfl (Host.Outcome.next.inj h).symm

/-- A transmit effect, in the two fields it writes (R100 to R105). -/
theorem TxEffect.eq {i : Instr} {s t : State} (h : TxEffect i s t) :
    t = { s with txOpen := t.txOpen, txOut := t.txOut } ∧ s.txOut <+: t.txOut := by
  cases h <;> simp [State.sendByte_eq, State.closeTx_eq]

/-- An RX effect, in the fields it may write (R121 to R126). -/
theorem RxEffect.eq {i : Instr} {s t : State} (h : RxEffect i s t) :
    t = { s with
      inFrame := t.inFrame, acc := t.acc, ovf := t.ovf, discard := t.discard, res := t.res, draws := t.draws } := by
  cases h <;> simp [State.endFrame_eq, State.storeByte_eq, State.enterFrame, State.setDiscard]

end Sys2Proof.Machine
end

