-- ==== Sys2Proof/Laws/Agree.lean ====
section
/-! SUPPORT. The agreement of records, states, answers and receptions as far as the spec fixes them is reflexive, so an equality
gives it; and what the reception of one word can do, said once. -/

namespace Sys2Proof.Machine

@[simp] theorem Res.sameSpecified_refl (r : Res) : r.sameSpecified r :=
  ⟨rfl, fun _ => ⟨rfl, fun f _ => by cases f <;> rfl⟩⟩

@[simp] theorem State.agreesWith_refl (s : State) : s.agreesWith s := ⟨rfl, Res.sameSpecified_refl _⟩

@[simp] theorem answersAgree_refl (a : Answer) : answersAgree a a := by
  cases a <;> simp [answersAgree]

/-- Equal answers agree. -/
theorem answersAgree_of_eq {a b : Answer} (h : a = b) : answersAgree a b := h ▸ answersAgree_refl a

@[simp] theorem receptionsAgree_refl (x : Option (State × List Res)) : receptionsAgree x x := by
  rcases x with _ | ⟨s, rs⟩
  · trivial
  · exact ⟨State.agreesWith_refl s, List.forall₂_same.2 fun r _ => Res.sameSpecified_refl r⟩

/-- Agreeing states have the same framer state. -/
theorem State.agreesWith.framerState {s t : State} (h : s.agreesWith t) : s.framerState = t.framerState := by
  have := h.1
  rw [this]
  rfl

/-- The consumer's TAKE before a word goes on only where a result waits, and then frees the register (R120, R203). -/
theorem takeWaiting_next {s t : State} (h : takeWaiting s = .next t) :
    s.rxHeld = true ∧ t = s.releaseResult ∨ s.rxHeld = false ∧ t = s := by
  unfold takeWaiting at h
  split at h <;> rename_i hh
  · obtain ⟨-, rfl⟩ := afterReset_next_iff.1 h
    have hv : s.res.valid = true := by simp only [State.rxHeld, Bool.and_eq_true] at hh; exact hh.2
    exact .inl ⟨hh, by simp [State.takeResult, hv]⟩
  · exact .inr ⟨by simpa using hh, (Host.Outcome.next.inj h).symm⟩

/-- The consumer's TAKE after a word: nothing was produced, or the record is handed over and the register freed. -/
theorem takeProduced_some {t u : State} {rs : List Res} (h : takeProduced t = some (u, rs)) :
    t.res.valid = false ∧ u = t ∧ rs = [] ∨ t.res.valid = true ∧ u = t.releaseResult ∧ rs = [t.res] := by
  unfold takeProduced at h
  split at h <;> rename_i hv
  · split at h
    · rename_i v he
      obtain ⟨-, rfl⟩ := afterReset_next_iff.1 he
      simp only [Option.some.injEq, Prod.mk.injEq] at h
      exact .inr ⟨hv, by rw [← h.1, State.takeResult, if_pos hv], h.2.symm⟩
    · cases h
    · cases h
  · simp only [Option.some.injEq, Prod.mk.injEq] at h
    exact .inl ⟨by simpa using hv, h.1.symm, h.2.symm⟩

/-- Everything the reception of one word can do. -/
theorem receiveWord_some {w : CmdWord} {s u : State} {rs : List Res} (h : receiveWord w s = some (u, rs)) :
    ∃ i free t, decodeWord s.framerState w = .ok i ∧ takeWaiting s = .next free ∧ exec i free = .next t ∧
      takeProduced t = some (u, rs) := by
  unfold receiveWord at h
  split at h
  · rename_i i free hd hw
    split at h
    · rename_i t he
      exact ⟨i, free, t, hd, hw, he, h⟩
    · cases h
    · cases h
  · cases h

end Sys2Proof.Machine
end

