-- ==== Sys2Proof/Laws/Decode.lean ====
section
/-! SUPPORT. The fields of an assembled word are the fields it was assembled from, and a word is its fields. -/

namespace Sys2Proof

open Sys2Proof.Machine

@[simp] theorem cmdGroup_cmdWord (g : BitVec 2) (e : Bool) (b : Byte) : cmdGroup (cmdWord g e b) = g := by
  revert g e b; decide

@[simp] theorem cmdBit8_cmdWord (g : BitVec 2) (e : Bool) (b : Byte) : cmdBit8 (cmdWord g e b) = e := by
  revert g e b; decide

@[simp] theorem cmdByte_cmdWord (g : BitVec 2) (e : Bool) (b : Byte) : cmdByte (cmdWord g e b) = b := by
  revert g e b; decide

/-- A command word is its group, bit 8 and byte (R69). -/
theorem cmdWord_fields (w : CmdWord) : cmdWord (cmdGroup w) (cmdBit8 w) (cmdByte w) = w := by
  revert w; decide

/-- Bit `i` of a three-part concatenation of the window's widths. -/
theorem getLsbD_window (a : BitVec 8) (b : BitVec 1) (c : BitVec 8) (i : Nat) :
    (show BitVec 17 from a ++ b ++ c).getLsbD i =
      if i < 8 then c.getLsbD i else if i - 8 < 1 then b.getLsbD (i - 8) else a.getLsbD (i - 8 - 1) := by
  show (a ++ b ++ c).getLsbD i = _
  rw [BitVec.getLsbD_append, BitVec.getLsbD_append]

@[simp] theorem winCur_window (c : Byte) (n : Option Byte) : winCur (window c n) = c := by
  apply BitVec.eq_of_getLsbD_eq
  intro i h
  have h1 : ¬ 9 + i < 8 := by omega
  have h2 : ¬ 9 + i - 8 < 1 := by omega
  have h3 : 9 + i - 8 - 1 = i := by omega
  rw [winCur, BitVec.getLsbD_extractLsb', window, getLsbD_window, if_neg h1, if_neg h2, h3]
  simp [h]

@[simp] theorem winHasNext_window (c : Byte) (n : Option Byte) : winHasNext (window c n) = n.isSome := by
  rw [winHasNext, window, getLsbD_window]
  simp

@[simp] theorem winNext_window (c : Byte) (n : Option Byte) : winNext (window c n) = n.getD 0x00#8 := by
  apply BitVec.eq_of_getLsbD_eq
  intro i h
  rw [winNext, BitVec.getLsbD_extractLsb', window, getLsbD_window]
  simp [h]

/-- An RX word decodes by the framer state (R75). -/
@[simp] theorem decodeWord_rxWord (ctx : FramerState) (eoc : Bool) (b : Byte) :
    decodeWord ctx (rxWord eoc b) = .ok (decodeRx ctx eoc b) := by
  simp [decodeWord, rxWord]

/-- A TXD word decodes by its byte in every framer state (R71). -/
@[simp] theorem decodeWord_txdWord (ctx : FramerState) (b : Byte) :
    decodeWord ctx (txdWord b) = .ok (decodeTxd b) := by
  simp [decodeWord, txdWord]

@[simp] theorem decodeWord_txeWord (ctx : FramerState) : decodeWord ctx txeWord = .ok .txe := by
  cases ctx <;> decide

@[simp] theorem decodeWord_takeWord (ctx : FramerState) : decodeWord ctx takeWord = .ok .take := by
  cases ctx <;> decide

@[simp] theorem decodeWord_resetWord (ctx : FramerState) : decodeWord ctx resetWord = .ok .reset := by
  cases ctx <;> decide

end Sys2Proof
end

