-- ==== Sys2Proof/Laws/PerInstr.lean ====
section
/-! SUPPORT. Statements about every instruction as syntax, one lemma per constructor. `InOwnRow`: the encoded word has the
match and mask of the instruction's own row of the opcode map (R74, R76). -/

namespace Sys2Proof.Laws.InOwnRow

open Sys2Proof Sys2Proof.Machine

/-- The word of `i` satisfies `(w & mask) = match` of the row that has `i`'s number and context. -/
def Statement (i : Instr) : Prop :=
  match encode i with
  | .cmd w => ∃ r ∈ commandRows, r.num = i.row ∧ r.context = i.context ∧ w &&& r.mask = r.pat
  | .win u => ∃ r ∈ windowRows, r.num = i.row ∧ r.context = i.context ∧ u &&& r.mask = r.pat

theorem rxHuntStart (eoc : Bool) : Statement (.rxHuntStart eoc) :=
  ⟨⟨1, some .hunt, 0x05A#11, 0x6FF#11⟩, by decide, rfl, rfl, by revert eoc; decide⟩

theorem rxHuntSkip (eoc : Bool) (byte : Byte) : Statement (.rxHuntSkip eoc byte) :=
  ⟨⟨2, some .hunt, 0x000#11, 0x600#11⟩, by decide, rfl, rfl, by revert eoc byte; decide⟩

theorem rxFrameEnd (eoc : Bool) : Statement (.rxFrameEnd eoc) :=
  ⟨⟨3, some .frame, 0x0C0#11, 0x6FF#11⟩, by decide, rfl, rfl, by revert eoc; decide⟩

theorem rxFrameData (eoc : Bool) (byte : Byte) : Statement (.rxFrameData eoc byte) :=
  ⟨⟨4, some .frame, 0x000#11, 0x600#11⟩, by decide, rfl, rfl, by revert eoc byte; decide⟩

theorem rxDiscardLast (byte : Byte) : Statement (.rxDiscardLast byte) :=
  ⟨⟨5, some .discard, 0x100#11, 0x700#11⟩, by decide, rfl, rfl, by revert byte; decide⟩

theorem rxDiscardDrop (byte : Byte) : Statement (.rxDiscardDrop byte) :=
  ⟨⟨6, some .discard, 0x000#11, 0x700#11⟩, by decide, rfl, rfl, by revert byte; decide⟩

theorem take : Statement .take := ⟨⟨7, none, 0x200#11, 0x7FF#11⟩, by decide, rfl, rfl, by decide⟩

theorem reset : Statement .reset := ⟨⟨8, none, 0x201#11, 0x7FF#11⟩, by decide, rfl, rfl, by decide⟩

theorem txdEnd : Statement .txdEnd := ⟨⟨9, none, 0x4C0#11, 0x7FF#11⟩, by decide, rfl, rfl, by decide⟩

theorem txdEsc : Statement .txdEsc := ⟨⟨10, none, 0x4DB#11, 0x7FF#11⟩, by decide, rfl, rfl, by decide⟩

theorem txdStart : Statement .txdStart := ⟨⟨11, none, 0x45A#11, 0x7FF#11⟩, by decide, rfl, rfl, by decide⟩

theorem txdLit (byte : Byte) : Statement (.txdLit byte) :=
  ⟨⟨12, none, 0x400#11, 0x700#11⟩, by decide, rfl, rfl, by revert byte; decide⟩

theorem txe : Statement .txe := ⟨⟨13, none, 0x500#11, 0x7FF#11⟩, by decide, rfl, rfl, by decide⟩

theorem deEscEnd : Statement .deEscEnd := ⟨⟨14, none, 0x1B7DC#17, 0x1FFFF#17⟩, by decide, rfl, rfl, by decide⟩

theorem deEscEsc : Statement .deEscEsc := ⟨⟨15, none, 0x1B7DD#17, 0x1FFFF#17⟩, by decide, rfl, rfl, by decide⟩

theorem deEscStart : Statement .deEscStart := ⟨⟨16, none, 0x1B7DE#17, 0x1FFFF#17⟩, by decide, rfl, rfl, by decide⟩

theorem deEscBad (next : Byte) : Statement (.deEscBad next) :=
  ⟨⟨17, none, 0x1B700#17, 0x1FF00#17⟩, by decide, rfl, rfl, by revert next; decide⟩

theorem deEscTrail : Statement .deEscTrail := ⟨⟨18, none, 0x1B600#17, 0x1FF00#17⟩, by decide, rfl, rfl, by decide⟩

theorem deLit (cur : Byte) (next : Option Byte) : Statement (.deLit cur next) :=
  ⟨⟨19, none, 0x00000#17, 0x00000#17⟩, by decide, rfl, rfl, by simp⟩

end Sys2Proof.Laws.InOwnRow
end

