-- ==== Sys2Proof/Tests/Slice0.lean ====
section
/-! SUPPORT. The model's own tests: ill-formed terms, words written out from the spec's encodings, the spec's vectors
(95_test_vectors.md) one step at a time, and a named witness for every statement that has hypotheses. -/

namespace Sys2Proof.Tests

open Sys2Proof Sys2Proof.Machine Sys2Proof.Config

/-! ## States and checks -/

/-- A Boolean question about the next state; false where the machine does not go on. -/
def nextHas (a : Answer) (q : State → Bool) : Bool :=
  match a with
  | .next t => q t
  | .fault _ => false
  | .refused _ => false

/-- The refusal of an answer, if it is one. -/
def refusalOf (a : Answer) : Option Refusal :=
  match a with
  | .next _ => none
  | .fault _ => none
  | .refused r => some r

/-- FRAME with the given bytes received. -/
def framed (acc : List Byte) : State := { State.reset with inFrame := true, acc := acc }

/-- FIRST_PER_CHUNK in place of this hardware's mode. -/
def firstPerChunk : Params := { thisHardware with frameMode := .firstPerChunk }

/-- A bound of `n` raw bytes. -/
def bounded (n : Nat) : Params := { thisHardware with maxRawLen := n }

/-- DISCARD, which only FIRST_PER_CHUNK has. -/
def discarding : State := { State.resetWith firstPerChunk with discard := true }

/-- A record that waits: the ACK packet of 95_test_vectors.md. -/
def ackRecord : Res :=
  { valid := true, status := .ok, ptype := 0x80#8, crcRx := 0xCC23#16, crcCalc := 0xCC23#16, len := 0x0000#16, flen := 5,
    payload := [] }

/-- A result waits. -/
def waiting : State := { State.reset with res := ackRecord }

/-- A transmit frame is open. -/
def sending : State := { State.reset with txOpen := true, txOut := [0x5A#8, 0x41#8] }

/-- A power-on state (R262). -/
def poweredOn : State := { State.reset with resetDone := false, draws := 0 }

/-- The raw frame of the ACK packet. -/
def ackRaw : List Byte := [0x80#8, 0x23#8, 0xCC#8, 0x00#8, 0x00#8]

/-! ## Ill-formed terms, one per check -/

theorem test_illFormed_huntSkip : (Instr.rxHuntSkip true 0x5A#8).wellFormed = false := by decide
theorem test_illFormed_frameData : (Instr.rxFrameData false 0xC0#8).wellFormed = false := by decide
theorem test_illFormed_txdLit :
    (Instr.txdLit 0xC0#8).wellFormed = false ∧ (Instr.txdLit 0xDB#8).wellFormed = false ∧
      (Instr.txdLit 0x5A#8).wellFormed = false := by decide
theorem test_illFormed_escBad :
    (Instr.deEscBad 0xDC#8).wellFormed = false ∧ (Instr.deEscBad 0xDD#8).wellFormed = false ∧
      (Instr.deEscBad 0xDE#8).wellFormed = false := by decide
theorem test_illFormed_deLit : (Instr.deLit 0xDB#8 none).wellFormed = false := by decide
theorem test_params_wf : (bounded 0).wf = false ∧ (bounded 1).wf = true := by decide

/-! ## Decoding, each constructor by a word written out from R69 to R71 and R76 -/

/- R69: group 00, eoc 1, byte 0101 1010. -/
theorem test_decode_rxHuntStart : decodeWord .hunt 0b00_1_01011010#11 = .ok (.rxHuntStart true) := by rfl
theorem test_decode_rxHuntSkip : decodeWord .hunt 0b00_0_11000000#11 = .ok (.rxHuntSkip false 0xC0#8) := by rfl
theorem test_decode_rxFrameEnd : decodeWord .frame 0b00_1_11000000#11 = .ok (.rxFrameEnd true) := by rfl
theorem test_decode_rxFrameData : decodeWord .frame 0b00_0_01011010#11 = .ok (.rxFrameData false 0x5A#8) := by rfl
theorem test_decode_rxDiscardLast : decodeWord .discard 0b00_1_01011010#11 = .ok (.rxDiscardLast 0x5A#8) := by rfl
theorem test_decode_rxDiscardDrop : decodeWord .discard 0b00_0_11000000#11 = .ok (.rxDiscardDrop 0xC0#8) := by rfl
/- R70: group 01, sub-codes 0 and 1. -/
theorem test_decode_take : decodeWord .frame 0b01_000000000#11 = .ok .take := by rfl
theorem test_decode_reset : decodeWord .discard 0b01_000000001#11 = .ok .reset := by rfl
/- R71: group 10, bit 8 clear and the payload byte, or bit 8 set and zeros. -/
theorem test_decode_txdEnd : decodeWord .hunt 0b10_0_11000000#11 = .ok .txdEnd := by rfl
theorem test_decode_txdEsc : decodeWord .hunt 0b10_0_11011011#11 = .ok .txdEsc := by rfl
theorem test_decode_txdStart : decodeWord .frame 0b10_0_01011010#11 = .ok .txdStart := by rfl
theorem test_decode_txdLit : decodeWord .hunt 0b10_0_11011100#11 = .ok (.txdLit 0xDC#8) := by rfl
theorem test_decode_txe : decodeWord .discard 0b10_1_00000000#11 = .ok .txe := by rfl
/- R76: raw byte, whether another follows, that byte. -/
theorem test_decode_deEscEnd : decodeWindow 0b11011011_1_11011100#17 = .deEscEnd := by rfl
theorem test_decode_deEscEsc : decodeWindow 0b11011011_1_11011101#17 = .deEscEsc := by rfl
theorem test_decode_deEscStart : decodeWindow 0b11011011_1_11011110#17 = .deEscStart := by rfl
theorem test_decode_deEscBad : decodeWindow 0b11011011_1_01000001#17 = .deEscBad 0x41#8 := by rfl
theorem test_decode_deEscTrail : decodeWindow 0b11011011_0_00000000#17 = .deEscTrail := by rfl
theorem test_decode_deLit :
    decodeWindow 0b01000001_1_11011011#17 = .deLit 0x41#8 (some 0xDB#8) ∧
      decodeWindow 0b11000000_0_00000000#17 = .deLit 0xC0#8 none := ⟨rfl, rfl⟩
/- V-REF-1. -/
theorem test_decode_reserved :
    decodeWord .hunt 0x202#11 = .error .ctl ∧ decodeWord .frame 0x3FF#11 = .error .ctl ∧
      decodeWord .hunt 0x501#11 = .error .tx ∧ decodeWord .discard 0x5FF#11 = .error .tx ∧
      decodeWord .hunt 0x600#11 = .error .group ∧ decodeWord .frame 0x7FF#11 = .error .group :=
  ⟨rfl, rfl, rfl, rfl, rfl, rfl⟩
/- R80: the encodings of `RX 5A 80 |` and `TXF C0`. -/
theorem test_program_words :
    programWords [.rx [0x5A#8, 0x80#8] true] = some [0x05A#11, 0x180#11] ∧
      programWords [.txf [0xC0#8]] = some [0x4C0#11, 0x500#11] := by decide
/- R79, D29: an empty TXF is TXE alone, and there is no empty chunk. Log 16 for RX and TXD without bytes. -/
theorem test_program_lines :
    programWords [.txf []] = some [0x500#11] ∧ programWords [.rxc []] = none ∧ programWords [.rx [] true] = none ∧
      programWords [.rx [] false] = none ∧ programWords [.txd []] = none ∧
      decodeIncremental [] State.reset = none := ⟨by decide, by decide, by decide, by decide, by decide, rfl⟩
theorem test_tableWord :
    decodeTableWord 16 0x05A = some (.rxHuntStart false) ∧ decodeTableWord 16 0x5FF = none ∧
      decodeTableWord 16 0x85A = none ∧ decodeTableWord 24 0x1B7DC = some .deEscEnd := by decide

/-! ## One step of each row -/

/- V-FR-24: after `RX 5A`, STATUS 0x01. -/
theorem test_step_huntStart :
    nextHas (step (State.reset.withFetchWord 16 0x05A)) (fun t => t.statusView = 0x01#8 && t.clientQ = []) = true := by
  decide
/- V-FR-2: an END in HUNT changes nothing. -/
theorem test_step_huntSkip :
    nextHas (step (State.reset.withFetchWord 16 0x1C0)) (fun t => t.statusView = 0x00#8 && t.acc = []) = true := by decide
/- V-FR-1: the ACK. -/
theorem test_step_frameEnd :
    nextHas (step ((framed ackRaw).placeWord 0x1C0#11)) (fun t =>
      t.res = ackRecord && t.statusView = 0x08#8 && t.acc = []) = true := by decide +kernel
/- V-FR-18: in FIRST_PER_CHUNK an END in mid-chunk enters DISCARD, STATUS 0x0A. -/
theorem test_step_frameEnd_discard :
    nextHas (exec (.rxFrameEnd false) { framed ackRaw with params := firstPerChunk })
      (fun t => t.statusView = 0x0A#8) = true := by decide +kernel
/- R124's example. -/
theorem test_step_frameData :
    nextHas (exec (.rxFrameData false 0xDB#8) (framed [0x80#8])) (fun t => t.acc = [0x80#8, 0xDB#8]) = true := by decide
/- V-FR-24: the first byte past the bound sets OVF, STATUS 0x05. -/
theorem test_step_frameData_overflow :
    nextHas (exec (.rxFrameData true 0x00#8) { framed [0x80#8] with params := bounded 1 })
      (fun t => t.statusView = 0x05#8 && t.acc = [0x80#8]) = true := by decide
/- V-FR-23: the last byte of the chunk ends DISCARD. -/
theorem test_step_discardLast :
    nextHas (step (discarding.placeWord 0x15A#11)) (fun t => t.statusView = 0x00#8) = true := by decide
/- R125: a START is dropped. -/
theorem test_step_discardDrop :
    nextHas (step (discarding.placeWord 0x05A#11)) (fun t => t.statusView = 0x02#8) = true := by decide
/- V-FR-18: the held byte stays with the producer. -/
theorem test_step_hold :
    nextHas (step { waiting with producerQ := [0x05A#11], turns := [.producer] })
      (fun t => t.statusView = 0x08#8 && t.producerQ = [0x05A#11] && t.res = ackRecord) = true := by decide
/- V-FR-18: TAKE frees the register; R273: the consumer has the record. -/
theorem test_step_take :
    nextHas (step { waiting with consumerQ := [0x200#11], turns := [.consumer] })
      (fun t => t.statusView = 0x00#8 && t.taken = [ackRecord]) = true := by decide
/- V-RES-1. -/
theorem test_step_take_empty : exec .take State.reset = .next State.reset := by rfl
/- V-RES-2. -/
theorem test_step_reset : nextHas (exec .reset waiting) (fun t => t.statusView = 0x00#8) = true := by decide
/- V-RES-4, V-ENC-15. -/
theorem test_step_reset_sending :
    nextHas (exec .reset sending) (fun t => t.statusView = 0x00#8 && t.txOut = [0x5A#8, 0x41#8]) = true := by decide
/- V-ENC-11. -/
theorem test_step_txdEnd :
    nextHas (exec .txdEnd sending) (fun t => t.txOut = [0x5A#8, 0x41#8, 0xDB#8, 0xDC#8] && t.txOpen) = true := by decide
/- V-L1-2, its first word. -/
theorem test_step_txdEsc :
    nextHas (step (State.reset.withFetchWord 16 0x4DB)) (fun t => t.txOut = [0x5A#8, 0xDB#8, 0xDD#8]) = true := by decide
/- V-ENC-12. -/
theorem test_step_txdStart :
    nextHas (step (State.reset.withFetchWord 16 0x45A)) (fun t =>
      t.txOut = [0x5A#8, 0xDB#8, 0xDE#8] && t.statusView = 0x10#8) = true := by decide
/- V-ENC-9. -/
theorem test_step_txdLit :
    nextHas (exec (.txdLit 0x41#8) State.reset) (fun t => t.txOut = [0x5A#8, 0x41#8] && t.txOpen) = true := by decide
/- V-ENC-10. -/
theorem test_step_txdLit_open :
    nextHas (exec (.txdLit 0x41#8) sending) (fun t => t.txOut = [0x5A#8, 0x41#8, 0x41#8] && t.txOpen) = true := by decide
/- V-ENC-13. -/
theorem test_step_txe :
    nextHas (exec .txe sending) (fun t => t.txOut = [0x5A#8, 0x41#8, 0xC0#8] && !t.txOpen) = true := by decide
/- V-ENC-14. -/
theorem test_step_txe_empty :
    nextHas (step (State.reset.withFetchWord 16 0x500)) (fun t => t.txOut = [0x5A#8, 0xC0#8] && !t.txOpen) = true := by
  decide
/- V-DE-2, V-DE-3, V-DE-4, each as one step of the scan. -/
theorem test_step_deEscEnd :
    nextHas (step (State.reset.withFetchWord 24 0x1B7DC)) (fun t => t.deOut = [0xC0#8] && t.deRaw = []) = true := by decide
theorem test_step_deEscEsc :
    nextHas (step (State.reset.withFetchWord 24 0x1B7DD)) (fun t => t.deOut = [0xDB#8] && t.deRaw = []) = true := by decide
theorem test_step_deEscStart :
    nextHas (step (State.reset.withFetchWord 24 0x1B7DE)) (fun t => t.deOut = [0x5A#8] && t.deRaw = []) = true := by decide
/- V-DE-5: the byte after a bad ESC stays under DROP_ESC and goes under DROP_PAIR. -/
theorem test_step_deEscBad :
    nextHas (step (State.reset.withFetchWord 24 0x1B741)) (fun t => t.deOut = [] && t.deRaw = [0x41#8]) = true := by decide
theorem test_step_deEscBad_pair :
    nextHas (step ((State.resetWith { thisHardware with escUnknownMode := .dropPair }).withFetchWord 24 0x1B741))
      (fun t => t.deOut = [] && t.deRaw = []) = true := by decide
/- V-DE-10. -/
theorem test_step_deEscTrail :
    nextHas (step (State.reset.withFetchWord 24 0x1B600)) (fun t => t.deOut = [] && t.deRaw = []) = true := by decide
/- R151's example. -/
theorem test_step_deLit :
    nextHas (step (State.reset.withFetchWord 24 0x08200)) (fun t => t.deOut = [0x41#8] && t.deRaw = []) = true := by decide
/- V-REF-1, V-REF-2. -/
theorem test_step_refused :
    refusalOf (step (State.reset.placeWord 0x501#11)) = some (.reservedWord .tx) ∧
      refusalOf (step (poweredOn.placeWord 0x05A#11)) = some .beforeReset ∧
      refusalOf (step (poweredOn.placeWord 0x201#11)) = none := by decide
/- R272. -/
theorem test_step_wireSink :
    nextHas (step { sending with turns := [.wireSink] }) (fun t => t.txOut = [0x41#8] && t.wire = [0x5A#8]) = true := by
  decide

/-! ## Vectors of the functions -/

/- V-CRC-2, V-CRC-3, V-CRC-7, V-CRC-11. -/
theorem test_crc :
    crc16 true [0x00#8] 0x0000#16 = 0x1E0F#16 ∧ crc16 true [0xFF#8] 0x0000#16 = 0x00FF#16 ∧
      crc16 true [0x41#8] 0x0000#16 = 0x46EA#16 ∧ crc16 true [0x01#8, 0x02#8] 0x0000#16 = 0xF183#16 := by decide +kernel
/- The same rows in the catalogue variant. -/
theorem test_crc_catalogue :
    crc16 false [0x00#8] 0x0000#16 = 0x0000#16 ∧ crc16 false [0xFF#8] 0x0000#16 = 0x1EF0#16 ∧
      crc16 false [0x41#8] 0x0000#16 = 0x58E5#16 ∧ crc16 false [0x01#8, 0x02#8] 0x0000#16 = 0x1373#16 := by decide +kernel
/- V-ENC-1, V-ENC-5, V-ENC-7. -/
theorem test_encode :
    encodeFrame [] = [0x5A#8, 0xC0#8] ∧
      encodeFrame [0x5A#8, 0xC0#8, 0xDB#8] = [0x5A#8, 0xDB#8, 0xDE#8, 0xDB#8, 0xDC#8, 0xDB#8, 0xDD#8, 0xC0#8] ∧
      encodeFrame [0xDB#8, 0xDC#8] = [0x5A#8, 0xDB#8, 0xDD#8, 0xDC#8, 0xC0#8] := by decide
/- V-DE-6, V-DE-7, V-DE-8, V-DE-9. -/
theorem test_deescape :
    deescape .dropEsc [0xDB#8, 0xDB#8, 0xDC#8] = [0xC0#8] ∧ deescape .dropPair [0xDB#8, 0xDB#8, 0xDC#8] = [0xDC#8] ∧
      deescape .dropEsc [0xDB#8, 0x5A#8] = [0x5A#8] ∧ deescape .dropPair [0xDB#8, 0xDB#8] = [] ∧
      deescape .dropEsc [0xDB#8, 0xDB#8] = [] ∧ deescape .dropPair [0xDB#8, 0x41#8, 0x42#8] = [0x42#8] := by decide
/- V-DEC-5, V-DEC-6, V-DEC-9. -/
theorem test_decodeFrame_three :
    decodeFrame thisHardware [0x02#8, 0x03#8, 0x5D#8] false = .headerTruncated 0x02#8 0x5D03#16 0x5D03#16 3 ∧
      decodeFrame thisHardware [0x02#8, 0xB0#8, 0xE6#8, 0x07#8] false = .headerTruncated 0x02#8 0xE6B0#16 0xE6B0#16 4 ∧
      decodeFrame thisHardware [0x02#8, 0x00#8, 0x00#8] false = .crcMismatch 0x0000#16 0x5D03#16 3 := by decide +kernel
/- V-DEC-8, V-DEC-10, V-DEC-12. -/
theorem test_decodeFrame_five :
    decodeFrame thisHardware [0x80#8, 0xB4#8, 0x55#8, 0x07#8, 0x00#8] false =
        .ok 0x80#8 0x55B4#16 0x55B4#16 0x0007#16 5 [] ∧
      decodeFrame thisHardware [0x80#8, 0xCC#8, 0x23#8, 0x00#8, 0x00#8] false = .crcMismatch 0x23CC#16 0xCC23#16 5 ∧
      decodeFrame thisHardware [0x80#8, 0x23#8, 0xCC#8, 0x01#8, 0x00#8] false = .crcMismatch 0xCC23#16 0xFF12#16 5 := by
  decide +kernel
/- V-DEC-11. -/
theorem test_decodeFrame_strayEsc :
    decodeFrame thisHardware [0x80#8, 0x23#8, 0xCC#8, 0xDB#8, 0x00#8, 0x00#8] false =
        .ok 0x80#8 0xCC23#16 0xCC23#16 0x0000#16 5 [] ∧
      decodeFrame { thisHardware with escUnknownMode := .dropPair } [0x80#8, 0x23#8, 0xCC#8, 0xDB#8, 0x00#8, 0x00#8] false =
        .crcMismatch 0xCC23#16 0xA607#16 4 := by decide +kernel
/- V-DEC-4, the CHUNK_ACK packet. -/
theorem test_decodeFrame_chunkAck :
    decodeFrame thisHardware
        [0x81#8, 0x9E#8, 0x94#8, 0x05#8, 0x00#8, 0x00#8, 0x00#8, 0xDB#8, 0xDD#8, 0xDB#8, 0xDC#8, 0xDB#8, 0xDE#8] false =
      .ok 0x81#8 0x949E#16 0x949E#16 0x0005#16 10 [0x00#8, 0x00#8, 0xDB#8, 0xC0#8, 0x5A#8] := by decide +kernel
/- V-DEC-15, V-FR-6. -/
theorem test_decodeFrame_short :
    decodeFrame thisHardware ackRaw true = .frameTooLong ∧
      decodeFrame thisHardware [0xDB#8, 0xDC#8, 0xDB#8] false = .frameTooShort 1 := by decide
/- The NACK packet of 95_test_vectors.md. -/
theorem test_seal :
    sealPacket thisHardware 0xFF#8 0x0004#16 [0xFF#8, 0xFF#8, 0xFF#8, 0xFF#8] =
      [0xFF#8, 0xDE#8, 0xF4#8, 0x04#8, 0x00#8, 0xFF#8, 0xFF#8, 0xFF#8, 0xFF#8] := by decide +kernel
/- R120, R128: a byte held by the result that waits is not lost, and that result is none of the byte's. -/
theorem test_receive_held :
    (receiveWord 0x05A#11 waiting).any (fun x => x.1.statusView = 0x01#8 && x.2 = []) = true := by decide
/- R273: an observation that reads `tx_out` as a whole ends with bytes left in it. -/
theorem test_runEnded : runEnded .whole sending ∧ ¬ runEnded .bySink sending ∧ runEnded .bySink State.reset := by decide
theorem test_packetType : packetTypeOf 0x81#8 = some .chunkAck ∧ packetTypeOf 0x99#8 = none := by decide

/-! ## Witnesses: for each statement with hypotheses, data that meets them, clause by clause -/

theorem test_witness_DecodeOfEncodeIsIdentity :
    (Instr.rxFrameData true 0x5A#8).wellFormed = true ∧ (Instr.rxFrameData true 0x5A#8).inContext .frame = true ∧
      (Instr.deLit 0xC0#8 none).wellFormed = true ∧ (Instr.deLit 0xC0#8 none).inContext .hunt = true := by decide
theorem test_witness_EncodeOfDecodeIsIdentity : decodeWord .discard 0x1FF#11 = .ok (.rxDiscardLast 0xFF#8) := by rfl
theorem test_witness_DecoderFollowsOpcodeMap :
    decodeWord .hunt 0x4FF#11 = .ok (.txdLit 0xFF#8) ∧ firstRow commandRows .hunt 0x4FF#11 = some 12 ∧
      firstRow commandRows .hunt 0x501#11 = none := ⟨rfl, by decide, by decide⟩
theorem test_witness_ReservedWordsAreRefused :
    (State.reset.placeWord 0x202#11).turns = [.client] ∧ (State.reset.placeWord 0x202#11).queue .client = [0x202#11] ∧
      decodeWord (State.reset.placeWord 0x202#11).framerState 0x202#11 = .error .ctl ∧
      decodeWord .hunt 0x400#11 = .ok (.txdLit 0x00#8) ∧ decodeWord .hunt 0x1FF#11 = .ok (.rxHuntSkip true 0xFF#8) :=
  ⟨rfl, rfl, rfl, rfl, rfl⟩
theorem test_witness_PacketTypesAreListed :
    (0xFF#8, PacketType.nack) ∈ packetTypes ∧ 0x99#8 ∉ packetTypes.map Prod.fst := by decide
theorem test_witness_TxdSendsEscapedByte :
    State.reset.resetDone = true ∧ sending.resetDone = true ∧ sending.txOpen = true ∧ State.reset.txOpen = false ∧
      (0xDC#8 : Byte) ≠ 0xC0#8 ∧ (0xDC#8 : Byte) ≠ 0xDB#8 ∧ (0xDC#8 : Byte) ≠ 0x5A#8 := by decide
theorem test_witness_TxeClosesFrame : State.reset.resetDone = true ∧ sending.resetDone = true := by decide

/-- The transmit program `TXF C0`, with the client's turns. -/
def transmitting : State :=
  { State.reset with clientQ := [0x4C0#11, 0x500#11, 0x201#11], turns := [.client, .client, .wireSink] }

theorem test_witness_TransmitRunsEncode :
    transmitting.resetDone = true ∧ transmitting.txOpen = false ∧
      transmitting.clientQ = [0xC0#8].map txdWord ++ txeWord :: [0x201#11] ∧
      transmitting.turns = List.replicate 2 .client ++ [.wireSink] ∧
      (State.reset.placeWord txeWord).clientQ = ([] : List Byte).map txdWord ++ txeWord :: [] := by decide
theorem test_witness_EncodeShape :
    (encodeFrame [0xDB#8])[0]? = some 0x5A#8 ∧ (encodeFrame [0xDB#8])[1]? = some 0xDB#8 ∧
      (encodeFrame [0xDB#8])[3]? = some 0xC0#8 := by decide
theorem test_witness_RxHuntStartOpensFrame :
    0x15A#11 &&& 0x6FF#11 = 0x05A#11 ∧ State.reset.resetDone = true ∧ State.reset.res.valid = false := by decide
theorem test_witness_RxHuntSkipIgnoresByte :
    0x1C0#11 &&& 0x600#11 = 0x000#11 ∧ 0x1C0#11 &&& 0x6FF#11 ≠ 0x05A#11 ∧ (0xC0#8 : Byte) ≠ 0x5A#8 ∧
      State.reset.resetDone = true ∧ State.reset.res.valid = false := by decide
theorem test_witness_RxFrameEndDeliversResult :
    0x1C0#11 &&& 0x6FF#11 = 0x0C0#11 ∧ thisHardware.crcInvert = true ∧ (framed ackRaw).resetDone = true ∧
      (framed ackRaw).res.valid = false := by decide
theorem test_witness_RxFrameDataStoresByte :
    0x15A#11 &&& 0x600#11 = 0x000#11 ∧ 0x15A#11 &&& 0x6FF#11 ≠ 0x0C0#11 ∧ (0x5A#8 : Byte) ≠ 0xC0#8 ∧
      (framed []).resetDone = true ∧ (framed []).res.valid = false ∧
      ({ framed [] with params := bounded 1 } : State).acc.length < (bounded 1).maxRawLen ∧
      (bounded 1).maxRawLen ≤ ({ framed [0x00#8] with params := bounded 1 } : State).acc.length := by decide
theorem test_witness_RxDiscardDropKeepsState :
    0x0FF#11 &&& 0x700#11 = 0x000#11 ∧ discarding.resetDone = true ∧ discarding.res.valid = false := by decide
theorem test_witness_RxDiscardLastEndsDiscard :
    0x100#11 &&& 0x700#11 = 0x100#11 ∧ discarding.resetDone = true ∧ discarding.res.valid = false ∧
      discarding.inFrame = false := by decide
theorem test_witness_RxHeldWhileResultWaits :
    (Instr.rxFrameEnd true).isRx = true ∧ waiting.resetDone = true ∧ waiting.res.valid = true ∧
      ({ waiting with producerQ := [rxWord true 0x5A#8], turns := [.producer] } : State).producerQ =
        rxWord true 0x5A#8 :: [] := by decide
theorem test_witness_ChunkBoundaryIsInvisible :
    FramerState.frame ≠ .discard ∧ State.reset.params.frameMode = .allFrames ∧
      nextHas (exec (decodeRx .frame true 0xC0#8) (framed ackRaw)) (fun _ => true) = true ∧
      nextHas (exec (decodeRx .frame false 0xC0#8) (framed ackRaw)) (fun _ => true) = true := by decide

/-- The number of results of one chunk. -/
def resultCount (a : Option (State × List Res)) : Option Nat := a.map (fun x => x.2.length)

/- V-FR-3 in FIRST_PER_CHUNK: the empty frame, with a second one in the same chunk. -/
theorem test_witness_FirstPerChunkGivesAtMostOne :
    (State.resetWith firstPerChunk).params.frameMode = .firstPerChunk ∧
      resultCount (decodeIncremental [0x5A#8, 0xC0#8, 0x5A#8, 0xC0#8] { waiting with params := firstPerChunk }) = some 1 ∧
      resultCount (decodeIncremental [0x5A#8, 0xC0#8, 0x5A#8, 0xC0#8] (State.resetWith firstPerChunk)) = some 1 := by
  decide
theorem test_witness_ReceiveRoundTrip :
    State.reset.resetDone = true ∧ State.reset.res.valid = false ∧ State.reset.inFrame = false ∧
      State.reset.discard = false ∧ (encodeFrame [0xC0#8]).length - 2 ≤ (bounded 2).maxRawLen ∧
      (State.resetWith (bounded 2)).res.valid = false := by decide
theorem test_witness_ChunkSplittingIsInvisible :
    (∀ c ∈ [[0x5A#8], [0xDB#8, 0xDC#8], [0xC0#8]], c ≠ ([] : List Byte)) ∧
      [[0x5A#8], [0xDB#8, 0xDC#8], [0xC0#8]].flatten = encodeFrame [0xC0#8] := by decide
theorem test_witness_DeescapeFollowsCases :
    (0xDC#8 : Byte) ≠ 0xDB#8 ∧ (0xDB#8 : Byte) ≠ 0xDC#8 ∧ (0xDB#8 : Byte) ≠ 0xDD#8 ∧ (0xDB#8 : Byte) ≠ 0xDE#8 := by decide

/-- A scan of `DB DC 41`, with its turns. -/
def scanning : State :=
  { State.reset with deRaw := [0xDB#8, 0xDC#8, 0x41#8], turns := [.deescaper, .deescaper, .deescaper] }

theorem test_witness_ScanRunsDeescape : scanning.turns = List.replicate scanning.deRaw.length .deescaper ++ [] := by decide
theorem test_witness_CrcDetectsOneByteErrors :
    [0x80#8].length = [0x00#8].length ∧ [0x81#8].length = [0x01#8].length ∧
      List.zipWith (· ^^^ ·) [0x80#8] [0x00#8] = List.zipWith (· ^^^ ·) [0x81#8] ([0x01#8] : List Byte) ∧
      (0x80#8 : Byte) ≠ 0x81#8 := by decide

/-- The CRC of a frame with its CRC field zeroed, as R206's test uses it. -/
def zeroedCrc (f : List Byte) : Half := crc16 thisHardware.crcInvert ((f.set 1 0x00#8).set 2 0x00#8) 0x0000#16

/- R206's rows at their boundary lengths: 2; 3 without and with a match; 4 with; 5 without and with. -/
theorem test_witness_FrameOutcomeTable :
    [0x01#8, 0x02#8].length < 3 ∧
      le16 [0x02#8, 0x00#8, 0x00#8] 1 ≠ zeroedCrc [0x02#8, 0x00#8, 0x00#8] ∧
      le16 [0x02#8, 0x03#8, 0x5D#8] 1 = zeroedCrc [0x02#8, 0x03#8, 0x5D#8] ∧
      le16 [0x02#8, 0xB0#8, 0xE6#8, 0x07#8] 1 = zeroedCrc [0x02#8, 0xB0#8, 0xE6#8, 0x07#8] ∧
      le16 [0x81#8, 0x23#8, 0xCC#8, 0x00#8, 0x00#8] 1 ≠ zeroedCrc [0x81#8, 0x23#8, 0xCC#8, 0x00#8, 0x00#8] ∧
      le16 ackRaw 1 = zeroedCrc ackRaw ∧ deescape .dropEsc ackRaw = ackRaw := by decide +kernel
theorem test_witness_FrameErrorsAreNonFatal :
    (framed [0x01#8]).resetDone = true ∧ (framed [0x01#8]).res.valid = false ∧ (framed [0x01#8]).discard = false := by
  decide
theorem test_witness_ResultDependsOnlyOnFrame :
    (framed ackRaw).acc = ({ framed ackRaw with txOpen := true } : State).acc ∧
      (framed ackRaw).params = ({ framed ackRaw with txOpen := true } : State).params ∧
      (framed ackRaw).res.valid = false ∧
      nextHas (exec (.rxFrameEnd true) (framed ackRaw)) (fun _ => true) = true ∧
      nextHas (exec (.rxFrameEnd true) { framed ackRaw with txOpen := true }) (fun _ => true) = true := by decide
theorem test_witness_TakeReleasesResult :
    waiting.resetDone = true ∧ waiting.res.valid = true ∧ State.reset.resetDone = true ∧
      State.reset.res.valid = false := by decide
theorem test_witness_OnlyResetBeforeReset :
    poweredOn.resetDone = false ∧ Instr.take.isWindowCase = false ∧ Instr.take ≠ .reset ∧
      (poweredOn.placeWord 0x05A#11).turns = [.client] ∧ (poweredOn.placeWord 0x05A#11).queue .client = [0x05A#11] := by
  decide
theorem test_witness_OnlyResetBeforeReset_word :
    decodeWord (poweredOn.placeWord 0x05A#11).framerState 0x05A#11 = .ok (.rxHuntStart false) := by rfl
theorem test_witness_ResetIsCleanEntry : atPowerOn poweredOn := ⟨rfl, rfl⟩
theorem test_witness_StepRunsDecodedInstruction :
    (State.reset.placeWord 0x05A#11).turns = [.client] ∧ (State.reset.placeWord 0x05A#11).queue .client = [0x05A#11] ∧
      decodeWord (State.reset.placeWord 0x05A#11).framerState 0x05A#11 = .ok (.rxHuntStart false) ∧
      held (.rxHuntStart false) (State.reset.placeWord 0x05A#11) = false := ⟨rfl, rfl, rfl, rfl⟩
/- The third clause, for each party: its front word goes, and the step goes on. -/
theorem test_witness_StepRunsDecodedInstruction_queues :
    held (.rxHuntStart false) State.reset = false ∧
      nextHas (step { State.reset with producerQ := [0x05A#11, 0x0C0#11], turns := [.producer] })
        (fun u => u.producerQ = [0x0C0#11] && u.turns = []) = true ∧
      nextHas (step { State.reset with consumerQ := [0x200#11, 0x200#11], turns := [.consumer] })
        (fun u => u.consumerQ = [0x200#11] && u.turns = []) = true ∧
      nextHas (step { State.reset with clientQ := [0x500#11, 0x201#11], turns := [.client] })
        (fun u => u.clientQ = [0x201#11] && u.turns = []) = true := by decide
theorem test_witness_OtherStepsAreTheAgents :
    State.reset.turns = [] ∧ ({ State.reset with turns := [.producer] } : State).queue .producer = [] ∧
      ({ sending with turns := [.wireSink] } : State).txOut = 0x5A#8 :: [0x41#8] ∧
      ({ State.reset with turns := [.wireSink] } : State).txOut = [] ∧ scanning.deRaw = 0xDB#8 :: [0xDC#8, 0x41#8] ∧
      scanning.turns = .deescaper :: [.deescaper, .deescaper] ∧
      ({ State.reset with turns := [.deescaper] } : State).deRaw = [] := by decide
theorem test_witness_ConsumerGetsWaitingRecord :
    ({ waiting with consumerQ := [0x200#11], turns := [.consumer] } : State).consumerQ = 0x200#11 :: [] ∧
      waiting.resetDone = true ∧ waiting.res.valid = true := by decide

/- The invariants hold at reset, in FRAME, and of a waiting record; a step is taken there. -/
theorem test_witness_StepKeepsFramerInvariant :
    framerSound State.reset ∧ framerSound (framed ackRaw) ∧ step State.reset = .next State.reset :=
  ⟨fun _ => by decide, fun _ => by decide, rfl⟩
theorem test_witness_StepKeepsResultInvariant : blockSound waiting ∧ step waiting = .next waiting :=
  ⟨fun _ => by decide, rfl⟩
theorem test_witness_ParametersNeverChange : step State.reset = .next State.reset := by rfl
theorem test_witness_WaitingResultIsKept :
    waiting.res.valid = true ∧ Instr.txe ≠ .take ∧ Instr.txe ≠ .reset ∧
      nextHas (exec .txe waiting) (fun _ => true) = true ∧ nextHas (step waiting) (fun _ => true) = true := by decide
theorem test_witness_TransmitStreamIsAppendOnly :
    Instr.take.isTx = false ∧ nextHas (exec .take waiting) (fun _ => true) = true ∧
      nextHas (step { sending with turns := [.wireSink] }) (fun _ => true) = true ∧
      nextHas (step { sending with turns := [.producer] }) (fun _ => true) = true := by decide
theorem test_witness_RxFrame :
    (Instr.rxFrameEnd false).isRx = true ∧
      nextHas (exec (.rxFrameEnd false) (framed ackRaw)) (fun _ => true) = true := by decide
theorem test_witness_TxFrame : Instr.txe.isTx = true ∧ nextHas (exec .txe sending) (fun _ => true) = true := by decide
theorem test_witness_ExecLeavesAgentsAlone : nextHas (exec .take waiting) (fun _ => true) = true := by decide
theorem test_witness_ReceiveAndTransmitCommute :
    (Instr.rxHuntStart true).isRx = true ∧ Instr.txdEnd.isTx = true ∧ Instr.take ≠ .reset ∧
      nextHas (bothInOrder (.rxHuntStart true) .txdEnd State.reset) (fun _ => true) = true := by decide
theorem test_witness_DiscardLastsUntilChunkEnd :
    discarding.resetDone = true ∧ discarding.res.valid = false ∧ discarding.discard = true := by decide

/-- From power-on, the client's RESET leads to the state after reset, which is thus reachable. -/
theorem test_witness_ReachableStatesAreSound : Reachable State.reset ∧ State.reset.resetDone = true :=
  ⟨.step { poweredOn with clientQ := [resetWord], turns := [.client] } _ (.powerOn _ ⟨rfl, rfl⟩) rfl, rfl⟩

end Sys2Proof.Tests
end

section
/-! PROOFS. The family of 10_state.md: the STATUS view (R31), the transmit stream (R29) and the framer's invariants (R25). -/

namespace Sys2Proof.Machine

/-! ## The STATUS view (R31) -/

theorem State.statusView_bits_flags (s : State) :
    s.statusView.getLsbD 0 = s.inFrame ∧ s.statusView.getLsbD 1 = s.discard ∧ s.statusView.getLsbD 2 = s.ovf ∧
      s.statusView.getLsbD 3 = s.res.valid ∧ s.statusView.getLsbD 4 = s.txOpen := by
  simp only [State.statusView, BitVec.getLsbD_append]
  simp

/-- The three zero bits stand in front of the five flags, so cutting the flags off leaves them. -/
theorem State.statusView_bits_unused (s : State) : s.statusView.extractLsb' 5 3 = 0b000#3 := by
  apply BitVec.eq_of_getLsbD_eq
  intro i _
  simp only [State.statusView, BitVec.getLsbD_extractLsb', BitVec.getLsbD_append]
  simp

theorem State.resetWith_statusView (p : Config.Params) : (State.resetWith p).statusView = 0x00#8 := by
  simp [State.statusView, State.resetWith]

/-! ## TAKE and the contexts of the rows -/

/-- TAKE's effect is the release of a waiting result, or nothing (R203). -/
theorem State.takeResult_eq_or (s : State) : s.takeResult = s.releaseResult ∨ s.takeResult = s := by
  unfold State.takeResult
  split
  · exact .inl rfl
  · exact .inr rfl

/-- A row that asks for a framer state stands in no other (R74). -/
theorem eq_of_inContext_of_context {i : Instr} {ctx c : FramerState} (h : i.inContext ctx = true)
    (hc : i.context = some c) : ctx = c := by
  simpa [Instr.inContext, hc, eq_comm] using h

/-! ## The transmit stream (R29) -/

/-- An instruction that goes on either leaves the transmit stream alone, or is a transmit operation and appends to it. -/
theorem exec_txOut {i : Instr} {s t : State} (h : exec i s = .next t) :
    t.txOut = s.txOut ∨ i.isTx = true ∧ s.txOut <+: t.txOut := by
  cases exec_next h with
  | held _ _ _ ht => exact .inl (by rw [ht])
  | rx _ _ _ he => exact .inl (by rw [he.eq])
  | take _ _ ht =>
    rw [ht]
    obtain he | he := s.takeResult_eq_or <;> rw [he]
    · exact .inl (State.releaseResult_txOut s)
    · exact .inl rfl
  | reset _ ht => exact .inl (by rw [ht, State.clear_txOut])
  | tx hi _ he => exact .inr ⟨hi, he.eq.2⟩
  | window output consumed _ ht => exact .inl (by rw [ht, State.scanAdvance_txOut])

theorem exec_txOut_prefix {i : Instr} {s t : State} (h : exec i s = .next t) : s.txOut <+: t.txOut := by
  obtain he | ⟨-, hp⟩ := exec_txOut h
  · exact he ▸ List.prefix_rfl
  · exact hp

theorem exec_txOut_of_not_isTx {i : Instr} {s t : State} (h : exec i s = .next t) (hi : i.isTx = false) :
    t.txOut = s.txOut :=
  (exec_txOut h).resolve_right fun ⟨htx, _⟩ => by simp [hi] at htx

theorem issue_txOut_prefix {p : Turn} {s t : State} (h : issue p s = .next t) : s.txOut <+: t.txOut := by
  obtain ⟨-, rfl⟩ | ⟨w, rest, i, -, -, ⟨-, rfl⟩ | ⟨-, he⟩⟩ := issue_next h
  · exact List.prefix_rfl
  · exact List.prefix_rfl
  · simpa using exec_txOut_prefix he

theorem scanStep_txOut_prefix {s t : State} (h : scanStep s = .next t) : s.txOut <+: t.txOut := by
  obtain ⟨-, rfl⟩ | ⟨b, rest, -, he⟩ := scanStep_next h
  · exact List.prefix_rfl
  · exact exec_txOut_prefix he

/-- Only the wire sink's turn takes from the transmit stream, and it takes the front byte (R29, R272). -/
theorem step_txOut {s t : State} (h : step s = .next t) :
    s.turns.head? = some .wireSink ∧ t.txOut = s.txOut.drop 1 ∨
      s.turns.head? ≠ some .wireSink ∧ s.txOut <+: t.txOut := by
  obtain ⟨ht, rfl⟩ | ⟨p, ts, ht, ⟨hp, hi⟩ | ⟨rfl, rfl⟩ | ⟨rfl, hs⟩⟩ := step_next h
  · exact .inr ⟨by simp [ht], List.prefix_rfl⟩
  · have hne : p ≠ .wireSink := by rcases hp with rfl | rfl | rfl <;> decide
    exact .inr ⟨by simpa [ht] using hne, issue_txOut_prefix (s := s.dropTurn) hi⟩
  · exact .inl ⟨by simp [ht], rfl⟩
  · exact .inr ⟨by simp [ht], scanStep_txOut_prefix (s := s.dropTurn) hs⟩

/-! ## The framer state (R25) -/

theorem State.framerState_eq_discard_iff (s : State) : s.framerState = .discard ↔ s.discard = true := by
  unfold State.framerState
  cases s.discard <;> cases s.inFrame <;> simp

theorem State.framerState_eq_frame_iff (s : State) :
    s.framerState = .frame ↔ s.inFrame = true ∧ s.discard = false := by
  unfold State.framerState
  cases s.discard <;> cases s.inFrame <;> simp

theorem State.framerState_eq_hunt_iff (s : State) :
    s.framerState = .hunt ↔ s.inFrame = false ∧ s.discard = false := by
  unfold State.framerState
  cases s.discard <;> cases s.inFrame <;> simp

/-! ## Decoded instructions stand in their context (R74) -/

theorem decodeRx_inContext (ctx : FramerState) (eoc : Bool) (b : Byte) : (decodeRx ctx eoc b).inContext ctx = true := by
  cases ctx <;> unfold decodeRx <;> dsimp only <;> split <;> rfl

theorem decodeTxd_inContext (ctx : FramerState) (b : Byte) : (decodeTxd b).inContext ctx = true := by
  unfold decodeTxd
  repeat' split
  all_goals rfl

theorem decodeWord_inContext {ctx : FramerState} {w : CmdWord} {i : Instr} (h : decodeWord ctx w = .ok i) :
    i.inContext ctx = true := by
  unfold decodeWord at h
  repeat' split at h
  all_goals cases h
  · exact decodeRx_inContext ctx _ _
  · rfl
  · rfl
  · exact decodeTxd_inContext ctx _
  · rfl

theorem decodeWindow_inContext (ctx : FramerState) (u : Window) : (decodeWindow u).inContext ctx = true := by
  unfold decodeWindow
  repeat' split
  all_goals rfl

/-! ## The framer's invariants (R25) -/

/-- The invariants and the reset flag look at the framer's fields and the parameters only. -/
theorem framerSound_congr {s t : State} (hr : t.resetDone = s.resetDone) (hf : t.inFrame = s.inFrame)
    (ha : t.acc = s.acc) (ho : t.ovf = s.ovf) (hd : t.discard = s.discard) (hp : t.params = s.params) :
    framerSound t ↔ framerSound s := by
  simp only [framerSound, framerInv, hr, hf, ha, ho, hd, hp]

/-- A row that runs in its own framer state keeps the invariants: only the rows of HUNT enter FRAME, so never from DISCARD,
and only the rows of FRAME grow the accumulator or set the overflow flag. -/
theorem RxEffect.keeps_framerInv {i : Instr} {s t : State} (h : RxEffect i s t) (hc : i.inContext s.framerState = true)
    (hs : framerInv s) : framerInv t := by
  obtain ⟨hdisc, hovf, hidle, hlen, hmode⟩ := hs
  cases h with
  | huntStart eoc =>
    have hctx : s.framerState = .hunt := eq_of_inContext_of_context hc rfl
    obtain ⟨-, hd⟩ := s.framerState_eq_hunt_iff.1 hctx
    simp [framerInv, hd]
  | frameEnd eoc =>
    simp only [framerInv, State.endFrame_eq]
    refine ⟨by simp, by simp, by simp, by simp, fun hall => ?_⟩
    simpa [hall] using hmode hall
  | frameData eoc b =>
    have hctx : s.framerState = .frame := eq_of_inContext_of_context hc rfl
    obtain ⟨hf, hd⟩ := s.framerState_eq_frame_iff.1 hctx
    simp only [framerInv, State.storeByte_eq]
    refine ⟨by simp [hd], fun _ => hf, by simp [hf], ?_, hmode⟩
    split
    · simp; omega
    · exact hlen
  | discardLast b => exact ⟨by simp, hovf, hidle, hlen, by simp⟩
  | huntSkip | discardDrop => exact ⟨hdisc, hovf, hidle, hlen, hmode⟩

theorem exec_keeps_framerSound {i : Instr} {s t : State} (h : exec i s = .next t)
    (hc : i.inContext s.framerState = true) (hs : framerSound s) : framerSound t := by
  cases exec_next h with
  | held _ _ _ ht => exact ht ▸ hs
  | rx _ hr _ he => exact fun _ => he.keeps_framerInv hc (hs hr)
  | take _ _ ht =>
    rw [ht]
    obtain he | he := s.takeResult_eq_or <;> rw [he] <;> exact hs
  | reset _ ht =>
    subst ht
    exact fun _ => by simp [framerInv]
  | tx _ _ he =>
    rw [he.eq.1]
    exact hs
  | window output consumed _ ht => exact ht ▸ hs

theorem issue_keeps_framerSound {p : Turn} {s t : State} (h : issue p s = .next t) (hs : framerSound s) :
    framerSound t := by
  obtain ⟨-, rfl⟩ | ⟨w, rest, i, -, hd, ⟨-, rfl⟩ | ⟨-, he⟩⟩ := issue_next h
  · exact hs
  · exact hs
  · have hctx : ((s.recordRead i).setQueue p rest).framerState = s.framerState :=
      State.framerState_congr (by simp) (by simp)
    refine exec_keeps_framerSound he (hctx ▸ decodeWord_inContext hd) ?_
    exact (framerSound_congr (by simp) (by simp) (by simp) (by simp) (by simp) (by simp)).2 hs

theorem scanStep_keeps_framerSound {s t : State} (h : scanStep s = .next t) (hs : framerSound s) : framerSound t := by
  obtain ⟨-, rfl⟩ | ⟨b, rest, -, he⟩ := scanStep_next h
  · exact hs
  · exact exec_keeps_framerSound he (decodeWindow_inContext _ _) hs

theorem step_keeps_framerSound {s t : State} (h : step s = .next t) (hs : framerSound s) : framerSound t := by
  have hdrop : framerSound s.dropTurn := hs
  obtain ⟨-, rfl⟩ | ⟨p, ts, -, ⟨-, hi⟩ | ⟨-, rfl⟩ | ⟨-, hscan⟩⟩ := step_next h
  · exact hs
  · exact issue_keeps_framerSound hi hdrop
  · exact hdrop
  · exact scanStep_keeps_framerSound hscan hdrop

/-- At power-on no RESET has been taken, and what the agents have in front of them is no field of the framer. -/
theorem Reachable.isFramerSound {s : State} (h : Reachable s) : framerSound s := by
  induction h with
  | powerOn s h0 => exact fun hr => by simp [h0.1] at hr
  | step s t _ hstep ih => exact step_keeps_framerSound hstep ih
  | offer s pq cq kq ts _ ih => exact ih

/-- Where the invariants hold the two flags exclude each other, so FRAME is `in_frame` alone. -/
theorem State.framerState_eq_frame_iff_inFrame {s : State} (h : framerInv s) :
    s.framerState = .frame ↔ s.inFrame = true := by
  obtain ⟨hexcl, -⟩ := h
  rw [s.framerState_eq_frame_iff, and_iff_left_iff_imp]
  intro hf
  by_contra hd
  simp [hexcl (by simpa using hd)] at hf

/-! ## The obligations -/

/-- Settles O8: each bit of the concatenation is read off, for every state. -/
theorem statusBitsAreFlags : Obligations.StatusBitsAreFlags := by
  refine ⟨fun s => ?_, State.resetWith_statusView⟩
  obtain ⟨h0, h1, h2, h3, h4⟩ := s.statusView_bits_flags
  exact ⟨h0, h1, h2, h3, h4, s.statusView_bits_unused⟩

/-- Settles O53, by the inversions of `exec` and of the step. -/
theorem transmitStreamIsAppendOnly : Obligations.TransmitStreamIsAppendOnly := by
  refine ⟨fun i s t h => ⟨exec_txOut_prefix h, exec_txOut_of_not_isTx h⟩, fun s t h => ?_⟩
  obtain ⟨hsink, ht⟩ | ⟨hsink, ht⟩ := step_txOut h
  · exact ⟨fun _ => ht, fun hne => absurd hsink hne⟩
  · exact ⟨fun he => absurd he hsink, fun _ => ht⟩

/-- Settles O49: the invariants hold at power-on and every step keeps them, so the framer state is read off the flags. -/
theorem reachableStatesAreSound : Obligations.ReachableStatesAreSound := by
  intro s hreach hr
  have hinv : framerInv s := hreach.isFramerSound hr
  exact ⟨hinv, State.framerState_eq_frame_iff_inFrame hinv, s.framerState_eq_discard_iff, s.framerState_eq_hunt_iff⟩

end Sys2Proof.Machine

end

section
/-! PROOFS. The family of 20_memory.md: a receive and a transmit operation commute (R53). -/

namespace Sys2Proof.Machine

/-! ## The one form of the transmit rows (R100 to R105) -/

/-- Every transmit row's effect: START first, if no frame is open, then `bs`; afterwards a frame is open or not, as `opened` says. -/
def State.transmit (bs : List Byte) (opened : Bool) (s : State) : State :=
  { s with txOpen := opened, txOut := s.txOut ++ (if s.txOpen then [] else [startByte]) ++ bs }

@[simp] theorem State.transmit_rxHeld (bs : List Byte) (opened : Bool) (s : State) :
    (s.transmit bs opened).rxHeld = s.rxHeld := rfl

theorem State.sendByte_eq_transmit (bs : List Byte) : State.sendByte bs = State.transmit bs true :=
  funext (State.sendByte_eq bs)

theorem State.closeTx_eq_transmit : State.closeTx = State.transmit [endByte] false :=
  funext State.closeTx_eq

theorem exec_eq_transmit_of_isTx {j : Instr} (hj : j.isTx = true) :
    ∃ bs opened, ∀ s, exec j s = afterReset (State.transmit bs opened) s := by
  cases j with
  | txdEnd | txdEsc | txdStart | txdLit => exact ⟨_, _, congrFun (congrArg afterReset (State.sendByte_eq_transmit _))⟩
  | txe => exact ⟨_, _, congrFun (congrArg afterReset State.closeTx_eq_transmit)⟩
  | rxHuntStart | rxHuntSkip | rxFrameEnd | rxFrameData | rxDiscardLast | rxDiscardDrop | take | reset
  | deEscEnd | deEscEsc | deEscStart | deEscBad | deEscTrail | deLit => cases hj

/-! ## The RX rows neither read nor write the transmit state -/

/-- `effect` comes out the same before and after a transmit row's effect. -/
def IgnoresTransmit (effect : State → State) : Prop :=
  ∀ bs opened s, effect (State.transmit bs opened s) = State.transmit bs opened (effect s)

theorem State.endFrame_ignoresTransmit (eoc : Bool) : IgnoresTransmit (State.endFrame eoc) := by
  intro bs opened s
  simp only [State.endFrame_eq]
  rfl

theorem State.storeByte_ignoresTransmit (b : Byte) : IgnoresTransmit (State.storeByte b) := by
  intro bs opened s
  simp only [State.storeByte_eq]
  rfl

/-- The hold is decided by the result register and the reset flag, so it ignores the transmit state too (R120). -/
theorem IgnoresTransmit.whenFree {effect : State → State} (h : IgnoresTransmit effect) :
    IgnoresTransmit (whenFree effect) := by
  intro bs opened s
  unfold Machine.whenFree
  rw [State.transmit_rxHeld]
  split
  · rfl
  · exact h bs opened s

theorem exec_ignoresTransmit_of_isRx {i : Instr} (hi : i.isRx = true) :
    ∃ effect, IgnoresTransmit effect ∧ ∀ s, exec i s = afterReset effect s := by
  suffices h : ∃ effect, IgnoresTransmit effect ∧ ∀ s, exec i s = rxOp effect s from
    let ⟨_, hignores, hexec⟩ := h
    ⟨_, hignores.whenFree, hexec⟩
  cases i with
  | rxHuntStart | rxHuntSkip | rxDiscardLast | rxDiscardDrop => exact ⟨_, fun _ _ _ => rfl, fun _ => rfl⟩
  | rxFrameEnd eoc => exact ⟨_, State.endFrame_ignoresTransmit eoc, fun _ => rfl⟩
  | rxFrameData eoc b => exact ⟨_, State.storeByte_ignoresTransmit b, fun _ => rfl⟩
  | take | reset | txdEnd | txdEsc | txdStart | txdLit | txe
  | deEscEnd | deEscEsc | deEscStart | deEscBad | deEscTrail | deLit => cases hi

/-! ## Two operations in either order -/

/-- Nothing goes back to the time before the first RESET (R262). -/
theorem exec_keeps_resetDone {i : Instr} {s t : State} (h : exec i s = .next t) (hr : s.resetDone = true) :
    t.resetDone = true := by
  cases exec_next h with
  | held _ _ _ ht => exact ht ▸ hr
  | rx _ _ _ he => rw [he.eq]; exact hr
  | take _ _ ht =>
    rw [ht]
    obtain he | he := s.takeResult_eq_or <;> rw [he] <;> exact hr
  | reset _ ht => exact ht ▸ rfl
  | tx _ _ he => rw [he.eq.1]; exact hr
  | window _ _ _ ht => exact ht ▸ hr

/-- Before the first RESET the first operation is refused; after it both take effect, one after the other. -/
theorem bothInOrder_of_afterReset {i j : Instr} {f g : State → State} (hi : ∀ s, exec i s = afterReset f s)
    (hj : ∀ s, exec j s = afterReset g s) (s : State) : bothInOrder i j s = afterReset (g ∘ f) s := by
  unfold bothInOrder
  cases hr : s.resetDone with
  | false => rw [hi s, afterReset_before hr, afterReset_before hr]
  | true =>
    have hfirst : exec i s = .next (f s) := by rw [hi s, afterReset_after hr]
    have hsecond : exec j (f s) = .next (g (f s)) := by
      rw [hj, afterReset_after (exec_keeps_resetDone hfirst hr)]
    rw [hfirst, afterReset_after hr]
    exact hsecond

theorem bothInOrder_comm_of_isRx_of_isTx {i j : Instr} (hi : i.isRx = true) (hj : j.isTx = true) (s : State) :
    bothInOrder i j s = bothInOrder j i s := by
  obtain ⟨effect, hignores, hrx⟩ := exec_ignoresTransmit_of_isRx hi
  obtain ⟨bs, opened, htx⟩ := exec_eq_transmit_of_isTx hj
  have hcomm : State.transmit bs opened ∘ effect = effect ∘ State.transmit bs opened :=
    funext fun u => (hignores bs opened u).symm
  rw [bothInOrder_of_afterReset hrx htx, bothInOrder_of_afterReset htx hrx, hcomm]

/-! ## Only RESET writes both paths -/

/-- The first disjunct says that the transmit state is left alone, the second that the receive state is (R20). -/
theorem exec_writes_one_path {i : Instr} {s t : State} (hi : i ≠ .reset) (h : exec i s = .next t) :
    t.txOut = s.txOut ∧ t.txOpen = s.txOpen ∨
    t.inFrame = s.inFrame ∧ t.acc = s.acc ∧ t.ovf = s.ovf ∧ t.discard = s.discard ∧ t.res = s.res := by
  cases exec_next h with
  | held _ _ _ ht => exact .inl (ht ▸ ⟨rfl, rfl⟩)
  | rx _ _ _ he => rw [he.eq]; exact .inl ⟨rfl, rfl⟩
  | take _ _ ht =>
    rw [ht]
    obtain he | he := s.takeResult_eq_or <;> rw [he] <;> exact .inl ⟨rfl, rfl⟩
  | reset hreset _ => exact absurd hreset hi
  | tx _ _ he => rw [he.eq.1]; exact .inr ⟨rfl, rfl, rfl, rfl, rfl⟩
  | window _ _ _ ht => exact .inl (ht ▸ ⟨rfl, rfl⟩)

/-! ## The obligation -/

/-- Settles O57: the answers in the two orders are even equal, because every RX effect ignores the transmit state. -/
theorem receiveAndTransmitCommute : Obligations.ReceiveAndTransmitCommute :=
  ⟨fun _ _ s hi hj => answersAgree_of_eq (bothInOrder_comm_of_isRx_of_isTx hi hj s),
    fun _ _ _ hi h => exec_writes_one_path hi h⟩

end Sys2Proof.Machine

end

section
/-! PROOFS. The family of 30_encoding.md: the decoder gives the first matching row of the opcode map (R74), and the words
no row matches are refused (R73). -/

namespace Sys2Proof

open Sys2Proof.Machine

/-! ## Command words by their fields (R69) -/

@[simp] theorem cmdWord_inj (g g' : BitVec 2) (e e' : Bool) (b b' : Byte) :
    cmdWord g e b = cmdWord g' e' b' ↔ g = g' ∧ e = e' ∧ b = b' := by
  refine ⟨fun h => ⟨?_, ?_, ?_⟩, fun ⟨hg, he, hb⟩ => by rw [hg, he, hb]⟩
  · simpa using congrArg cmdGroup h
  · simpa using congrArg cmdBit8 h
  · simpa using congrArg cmdByte h

@[simp] theorem cmdWord_and_cmdWord (g g' : BitVec 2) (e e' : Bool) (b b' : Byte) :
    cmdWord g e b &&& cmdWord g' e' b' = cmdWord (g &&& g') (e && e') (b &&& b') := by
  simp only [cmdWord, ← BitVec.ofBool_and_ofBool]
  rw [← BitVec.and_append, ← BitVec.and_append]

/-- The byte part of the masks `0x6FF` and `0x7FF` keeps the byte whole. -/
@[simp] theorem and_fullByte (b : Byte) : b &&& 255#8 = b := BitVec.and_allOnes

theorem toNat_cmdWord (g : BitVec 2) (e : Bool) (b : Byte) :
    (cmdWord g e b).toNat = 0x200 * g.toNat + 0x100 * e.toNat + b.toNat := by
  have hb : b.toNat < 2 ^ 8 := b.isLt
  have he : e.toNat < 2 ^ 1 := e.toNat_lt
  simp only [cmdWord, BitVec.toNat_append, BitVec.toNat_ofBool]
  rw [← Nat.shiftLeft_add_eq_or_of_lt hb, ← Nat.shiftLeft_add_eq_or_of_lt he]
  omega

theorem toNat_rxWord_lt (eoc : Bool) (b : Byte) : (rxWord eoc b).toNat < 0x200 := by
  have he : eoc.toNat < 2 := eoc.toNat_lt
  have hb : b.toNat < 2 ^ 8 := b.isLt
  simp only [rxWord, toNat_cmdWord, BitVec.toNat_ofNat]
  omega

theorem toNat_txdWord (b : Byte) : (txdWord b).toNat = 0x400 + b.toNat := toNat_cmdWord 0b10#2 false b

/-- A command word is an RX word, a CTL word, a TXD word, a TX word with bit 8 set or a word of group `11` (R69 to R71). -/
theorem cmdWord_cases (w : CmdWord) :
    (∃ eoc b, w = rxWord eoc b) ∨ (∃ e b, w = cmdWord 0b01#2 e b) ∨ (∃ b, w = txdWord b) ∨
      (∃ b, w = cmdWord 0b10#2 true b) ∨ ∃ e b, w = cmdWord 0b11#2 e b := by
  have hgroup : ∀ g : BitVec 2, g = 0b00#2 ∨ g = 0b01#2 ∨ g = 0b10#2 ∨ g = 0b11#2 := by decide
  rw [← cmdWord_fields w]
  generalize cmdGroup w = g, cmdBit8 w = e, cmdByte w = b
  obtain rfl | rfl | rfl | rfl := hgroup g
  · exact .inl ⟨e, b, rfl⟩
  · exact .inr (.inl ⟨e, b, rfl⟩)
  · cases e with
    | false => exact .inr (.inr (.inl ⟨b, rfl⟩))
    | true => exact .inr (.inr (.inr (.inl ⟨b, rfl⟩)))
  · exact .inr (.inr (.inr (.inr ⟨e, b, rfl⟩)))

/-! ## The decoder by operation group (R70, R71) -/

theorem decodeWord_ctlWord (ctx : FramerState) (e : Bool) (b : Byte) :
    decodeWord ctx (cmdWord 0b01#2 e b) =
      if e = false ∧ b = 0x00#8 then .ok .take else if e = false ∧ b = 0x01#8 then .ok .reset else .error .ctl := by
  simp [decodeWord]

theorem decodeWord_txBit8Word (ctx : FramerState) (b : Byte) :
    decodeWord ctx (cmdWord 0b10#2 true b) = if b = 0x00#8 then .ok .txe else .error .tx := by
  simp [decodeWord]

theorem decodeWord_unusedGroup (ctx : FramerState) (e : Bool) (b : Byte) :
    decodeWord ctx (cmdWord 0b11#2 e b) = .error .group := by
  simp [decodeWord]

/-! ## The opcode map by fields (R74) -/

/-- The rows of R74 with match and mask cut into the fields of a word: a mask keeps each field whole or drops it. -/
theorem commandRows_eq_fields : commandRows =
    [⟨1, some .hunt, cmdWord 0b00#2 false startByte, cmdWord (.allOnes 2) false (.allOnes 8)⟩,
     ⟨2, some .hunt, cmdWord 0b00#2 false 0x00#8, cmdWord (.allOnes 2) false 0x00#8⟩,
     ⟨3, some .frame, cmdWord 0b00#2 false endByte, cmdWord (.allOnes 2) false (.allOnes 8)⟩,
     ⟨4, some .frame, cmdWord 0b00#2 false 0x00#8, cmdWord (.allOnes 2) false 0x00#8⟩,
     ⟨5, some .discard, cmdWord 0b00#2 true 0x00#8, cmdWord (.allOnes 2) true 0x00#8⟩,
     ⟨6, some .discard, cmdWord 0b00#2 false 0x00#8, cmdWord (.allOnes 2) true 0x00#8⟩,
     ⟨7, none, cmdWord 0b01#2 false 0x00#8, cmdWord (.allOnes 2) true (.allOnes 8)⟩,
     ⟨8, none, cmdWord 0b01#2 false 0x01#8, cmdWord (.allOnes 2) true (.allOnes 8)⟩,
     ⟨9, none, cmdWord 0b10#2 false endByte, cmdWord (.allOnes 2) true (.allOnes 8)⟩,
     ⟨10, none, cmdWord 0b10#2 false escByte, cmdWord (.allOnes 2) true (.allOnes 8)⟩,
     ⟨11, none, cmdWord 0b10#2 false startByte, cmdWord (.allOnes 2) true (.allOnes 8)⟩,
     ⟨12, none, cmdWord 0b10#2 false 0x00#8, cmdWord (.allOnes 2) true 0x00#8⟩,
     ⟨13, none, cmdWord 0b10#2 true 0x00#8, cmdWord (.allOnes 2) true (.allOnes 8)⟩] := by
  decide

theorem firstRow_nil {n : Nat} (ctx : FramerState) (w : BitVec n) : firstRow [] ctx w = none := rfl

theorem firstRow_cons {n : Nat} (r : Row n) (rows : List (Row n)) (ctx : FramerState) (w : BitVec n) :
    firstRow (r :: rows) ctx w = if r.applies ctx w then some r.num else firstRow rows ctx w := by
  unfold firstRow
  rw [List.find?_cons]
  cases r.applies ctx w <;> rfl

/-- An RX word: the rows of the two other framer states do not apply, and those of its own split by byte or `eoc` (R75). -/
theorem firstRow_rxWord (ctx : FramerState) (eoc : Bool) (b : Byte) :
    firstRow commandRows ctx (rxWord eoc b) = some (decodeRx ctx eoc b).row := by
  rw [commandRows_eq_fields]
  cases ctx with
  | hunt => by_cases hb : b = startByte <;> simp [rxWord, firstRow_cons, Row.applies, decodeRx, Instr.row, hb]
  | frame => by_cases hb : b = endByte <;> simp [rxWord, firstRow_cons, Row.applies, decodeRx, Instr.row, hb]
  | discard => cases eoc <;> simp [rxWord, firstRow_cons, Row.applies, decodeRx, Instr.row]

theorem firstRow_ctlWord (ctx : FramerState) (e : Bool) (b : Byte) :
    firstRow commandRows ctx (cmdWord 0b01#2 e b) =
      if e = false ∧ b = 0x00#8 then some 7 else if e = false ∧ b = 0x01#8 then some 8 else none := by
  rw [commandRows_eq_fields]
  simp [firstRow_cons, firstRow_nil, Row.applies]

theorem firstRow_txdWord (ctx : FramerState) (b : Byte) :
    firstRow commandRows ctx (txdWord b) = some (decodeTxd b).row := by
  rw [commandRows_eq_fields]
  simp only [decodeTxd, apply_ite Instr.row, apply_ite some]
  simp [txdWord, firstRow_cons, Row.applies, Instr.row]

theorem firstRow_txBit8Word (ctx : FramerState) (b : Byte) :
    firstRow commandRows ctx (cmdWord 0b10#2 true b) = if b = 0x00#8 then some 13 else none := by
  rw [commandRows_eq_fields]
  simp [firstRow_cons, firstRow_nil, Row.applies]

theorem firstRow_unusedGroup (ctx : FramerState) (e : Bool) (b : Byte) :
    firstRow commandRows ctx (cmdWord 0b11#2 e b) = none := by
  rw [commandRows_eq_fields]
  simp [firstRow_cons, firstRow_nil, Row.applies]

/-- The opcode map and the decoder give the same row, or both none. -/
theorem firstRow_eq_row_of_decodeWord (ctx : FramerState) (w : CmdWord) :
    firstRow commandRows ctx w = (decodeWord ctx w).toOption.map Instr.row := by
  obtain ⟨eoc, b, rfl⟩ | ⟨e, b, rfl⟩ | ⟨b, rfl⟩ | ⟨b, rfl⟩ | ⟨e, b, rfl⟩ := cmdWord_cases w
  · rw [firstRow_rxWord, decodeWord_rxWord]; rfl
  · rw [firstRow_ctlWord, decodeWord_ctlWord]; split_ifs <;> rfl
  · rw [firstRow_txdWord, decodeWord_txdWord]; rfl
  · rw [firstRow_txBit8Word, decodeWord_txBit8Word]; split_ifs <;> rfl
  · rw [firstRow_unusedGroup, decodeWord_unusedGroup]; rfl

/-! ## Reserved words (R73) -/

/-- The reserved CTL words are the sub-codes from `0x002` on (R70). -/
theorem decodeWord_ctlWord_error_iff (ctx : FramerState) (e : Bool) (b : Byte) :
    (∃ r, decodeWord ctx (cmdWord 0b01#2 e b) = .error r) ↔ 2 ≤ 0x100 * e.toNat + b.toNat := by
  rw [decodeWord_ctlWord]
  cases e with
  | true => exact iff_of_true ⟨.ctl, by simp⟩ (by rw [Bool.toNat_true]; omega)
  | false =>
    split_ifs with htake hreset
    · simp [htake.2]
    · simp [hreset.2]
    · simp only [true_and] at htake hreset
      exact iff_of_true ⟨.ctl, rfl⟩ (by bv_omega)

/-- The reserved TX words are those with bit 8 set and a byte other than 0 (R71). -/
theorem decodeWord_txBit8Word_error_iff (ctx : FramerState) (b : Byte) :
    (∃ r, decodeWord ctx (cmdWord 0b10#2 true b) = .error r) ↔ 0 < b.toNat := by
  rw [decodeWord_txBit8Word]
  split_ifs with htxe
  · simp [htxe]
  · exact iff_of_true ⟨.tx, rfl⟩ (by bv_omega)

/-- The decoder's errors are exactly the three ranges R73 prints. -/
theorem decodeWord_error_iff (ctx : FramerState) (w : CmdWord) :
    (∃ r, decodeWord ctx w = .error r) ↔
      (0x202 ≤ w.toNat ∧ w.toNat ≤ 0x3FF ∨ 0x501 ≤ w.toNat ∧ w.toNat ≤ 0x5FF ∨ 0x600 ≤ w.toNat) := by
  obtain ⟨eoc, b, rfl⟩ | ⟨e, b, rfl⟩ | ⟨b, rfl⟩ | ⟨b, rfl⟩ | ⟨e, b, rfl⟩ := cmdWord_cases w
  · have hlt : (rxWord eoc b).toNat < 0x200 := toNat_rxWord_lt eoc b
    simp only [decodeWord_rxWord, reduceCtorEq, exists_false, false_iff]
    omega
  · have he : e.toNat < 2 := e.toNat_lt
    have hb : b.toNat < 2 ^ 8 := b.isLt
    simp only [decodeWord_ctlWord_error_iff, toNat_cmdWord, BitVec.toNat_ofNat]
    omega
  · rw [decodeWord_txdWord, toNat_txdWord]
    simp only [reduceCtorEq, exists_false, false_iff]
    bv_omega
  · rw [decodeWord_txBit8Word_error_iff, toNat_cmdWord]
    bv_omega
  · simp only [decodeWord_unusedGroup, Except.error.injEq, exists_eq', true_iff, toNat_cmdWord]
    bv_omega

theorem decodeRx_isRx (ctx : FramerState) (eoc : Bool) (b : Byte) : (decodeRx ctx eoc b).isRx = true := by
  unfold decodeRx
  cases ctx <;> dsimp only <;> split <;> rfl

/-- The words below `0x200` are RX words (R69). -/
theorem eq_rxWord_of_lt {w : CmdWord} (h : w.toNat < 0x200) : w = rxWord (cmdBit8 w) (cmdByte w) := by
  have hgroup : cmdGroup w = 0b00#2 := by
    rw [← cmdWord_fields w, toNat_cmdWord] at h
    bv_omega
  calc w = cmdWord (cmdGroup w) (cmdBit8 w) (cmdByte w) := (cmdWord_fields w).symm
    _ = rxWord (cmdBit8 w) (cmdByte w) := by rw [hgroup]; rfl

end Sys2Proof

namespace Sys2Proof.Machine

/-! ## Issuing a reserved word (R73) -/

/-- Only the wire sink and the scan move otherwise than by issuing a word, and neither has a word to issue (R34). -/
theorem move_eq_issue {t : Turn} {s : State} (hq : s.queue t ≠ []) : move t s = issue t s := by
  cases t with
  | producer | consumer | client => rfl
  | wireSink | deescaper => exact absurd rfl hq

theorem issue_of_reserved {t : Turn} {s : State} {w : CmdWord} {rest : List CmdWord} {r : Reserved}
    (hq : s.queue t = w :: rest) (hd : decodeWord s.framerState w = .error r) :
    issue t s = .refused (.reservedWord r) := by
  simp only [issue, hq, hd]

theorem step_of_reserved {s : State} {t : Turn} {ts : List Turn} {w : CmdWord} {rest : List CmdWord} {r : Reserved}
    (ht : s.turns = t :: ts) (hq : s.queue t = w :: rest) (hd : decodeWord s.framerState w = .error r) :
    step s = .refused (.reservedWord r) := by
  have hq' : s.dropTurn.queue t = w :: rest := by rw [State.queue_dropTurn, hq]
  have hmove : step s = move t s.dropTurn := by simp only [step, takeTurn, ht]
  rw [hmove, move_eq_issue (by simp [hq']), issue_of_reserved hq' hd]

theorem statusCode_lt (st : Status) : (statusCode st).toNat < 5 := by
  cases st <;> decide

/-! ## The obligations -/

/-- Settles O3: the map's first row is the row of what the decoder gives, where it gives something. -/
theorem decoderFollowsOpcodeMap : Obligations.DecoderFollowsOpcodeMap := by
  intro ctx w
  rw [firstRow_eq_row_of_decodeWord]
  cases decodeWord ctx w with
  | ok i => simp [Except.toOption]
  | error r => simp [Except.toOption]

/-- Settles O5: the ranges from the fields of each kind of word, the refusal from the issue of a word that does not decode. -/
theorem reservedWordsAreRefused : Obligations.ReservedWordsAreRefused := by
  refine ⟨decodeWord_error_iff, fun _ _ _ _ _ _ => step_of_reserved, fun ctx w h => ?_, statusCode_lt⟩
  rw [eq_rxWord_of_lt h, decodeWord_rxWord]
  exact ⟨_, rfl, decodeRx_isRx ctx _ _⟩

end Sys2Proof.Machine

end

section
/-! PROOFS. The family of 40_encoder.md: the transmit operations (R100 to R105), and `encode(p)` as what they append (R106)
and as a list with a length (R107). -/

namespace Sys2Proof.Machine

/-! ## TXD and TXE as transmit effects (R100 to R105) -/

theorem afterReset_sendByte {bs : List Byte} {s : State} (hr : s.resetDone = true) :
    afterReset (State.sendByte bs) s = .next (s.transmit bs true) := by
  rw [State.sendByte_eq_transmit, afterReset_after hr]

theorem exec_txe {s : State} (hr : s.resetDone = true) : exec .txe s = .next (s.transmit [endByte] false) := by
  rw [← State.closeTx_eq_transmit]
  exact afterReset_after hr

/-- The row that TXD takes for a byte sends that byte's escape sequence (R101 to R104, R106). -/
theorem exec_decodeTxd {s : State} (hr : s.resetDone = true) (b : Byte) :
    exec (decodeTxd b) s = .next (s.transmit (escOf b) true) := by
  unfold decodeTxd escOf
  split_ifs <;> exact afterReset_sendByte hr

theorem decodeTxd_isTx (b : Byte) : (decodeTxd b).isTx = true := by
  unfold decodeTxd
  split_ifs <;> rfl

theorem decodeTxd_of_unreserved {b : Byte} (hend : b ≠ endByte) (hesc : b ≠ escByte) (hstart : b ≠ startByte) :
    decodeTxd b = .txdLit b := by
  rw [decodeTxd, if_neg hend, if_neg hesc, if_neg hstart]

/-- The TXD word of a byte, with its payload bits filled in (R71). -/
theorem txdWord_eq_or (b : Byte) : txdWord b = 0x400#11 ||| b.setWidth 11 := by
  revert b
  decide

/-- Once a frame is open, a second transmit effect appends to the first without another START. -/
theorem State.transmit_transmit (bs cs : List Byte) (opened : Bool) (s : State) :
    (s.transmit bs true).transmit cs opened = s.transmit (bs ++ cs) opened := by
  simp [State.transmit]

/-! ## The issue of a word that decodes -/

/-- A party's step takes its front word and runs the word's instruction, where that is not held (R34, R266). -/
theorem step_of_decoded {s : State} {t : Turn} {ts : List Turn} {w : CmdWord} {rest : List CmdWord} {i : Instr}
    (ht : s.turns = t :: ts) (hq : s.queue t = w :: rest) (hd : decodeWord s.framerState w = .ok i)
    (hh : held i s = false) : step s = exec i ((s.dropTurn.recordRead i).setQueue t rest) := by
  have hq' : s.dropTurn.queue t = w :: rest := by rw [State.queue_dropTurn, hq]
  have hd' : decodeWord s.dropTurn.framerState w = .ok i := hd
  have hh' : held i s.dropTurn = false := hh
  have hmove : step s = move t s.dropTurn := by simp only [step, takeTurn, ht]
  rw [hmove, move_eq_issue (by simp [hq'])]
  simp only [issue, hq', hd', hh', Bool.false_eq_true, if_false]

/-- `s` with the words `q` in front of the client and the turns `ts` still to come (log 4). -/
def State.offering (s : State) (q : List CmdWord) (ts : List Turn) : State := { s with clientQ := q, turns := ts }

theorem State.offering_transmit (s : State) (q : List CmdWord) (ts : List Turn) (bs : List Byte) (opened : Bool) :
    (s.offering q ts).transmit bs opened = (s.transmit bs opened).offering q ts := rfl

theorem held_of_isTx {i : Instr} (hi : i.isTx = true) (s : State) : held i s = false := by
  cases i with
  | txdEnd | txdEsc | txdStart | txdLit | txe => rfl
  | _ => cases hi

/-- A transmit word of the client is never held and reads nothing: its step runs the instruction and takes the word and the
turn (R272). -/
theorem step_offering_of_isTx {s : State} {ts : List Turn} {w : CmdWord} {rest : List CmdWord} {i : Instr}
    (hd : decodeWord s.framerState w = .ok i) (hi : i.isTx = true) :
    step (s.offering (w :: rest) (.client :: ts)) = exec i (s.offering rest ts) := by
  have hread : i ≠ .take := by
    rintro rfl
    cases hi
  rw [step_of_decoded (s := s.offering (w :: rest) (.client :: ts)) rfl rfl hd (held_of_isTx hi _), State.recordRead,
    if_neg hread]
  rfl

theorem runSteps_succ_of_step {s t : State} (h : step s = .next t) (n : Nat) : runSteps (n + 1) s = runSteps n t := by
  rw [runSteps, h]

/-! ## The run of a whole frame (R106) -/

/-- The run of TXD for each byte and then TXE, whether or not a frame is open at its start: the effects of its words merge
into one. -/
theorem runSteps_txd_txe (p : List Byte) {s : State} (rest : List CmdWord) (ts : List Turn) (hr : s.resetDone = true) :
    runSteps (p.length + 1)
        (s.offering (p.map txdWord ++ txeWord :: rest) (List.replicate (p.length + 1) .client ++ ts)) =
      .next ((s.transmit (escBody p ++ [endByte]) false).offering rest ts) := by
  induction p generalizing s with
  | nil =>
    have hstep : step (s.offering (txeWord :: rest) (.client :: ts)) =
        .next ((s.transmit [endByte] false).offering rest ts) := by
      rw [step_offering_of_isTx (decodeWord_txeWord _) rfl, exec_txe (s := s.offering rest ts) hr,
        State.offering_transmit]
    exact runSteps_succ_of_step hstep 0
  | cons b p ih =>
    have hstep : ∀ q us, step (s.offering (txdWord b :: q) (.client :: us)) =
        .next ((s.transmit (escOf b) true).offering q us) := fun q us => by
      rw [step_offering_of_isTx (decodeWord_txdWord _ b) (decodeTxd_isTx b),
        exec_decodeTxd (s := s.offering q us) hr, State.offering_transmit]
    have hbody : escBody (b :: p) = escOf b ++ escBody p := List.flatMap_cons
    rw [List.length_cons, List.map_cons, List.replicate_succ, List.cons_append, List.cons_append,
      runSteps_succ_of_step (hstep _ _), ih (s := s.transmit (escOf b) true) hr,
      State.transmit_transmit, hbody, List.append_assoc]

theorem State.transmit_of_not_open {s : State} (ho : s.txOpen = false) (p : List Byte) :
    s.transmit (escBody p ++ [endByte]) false = { s with txOpen := false, txOut := s.txOut ++ encodeFrame p } := by
  simp [State.transmit, encodeFrame, ho]

/-! ## The length of a frame (R107) -/

theorem length_escOf (b : Byte) : (escOf b).length = if isReserved b then 2 else 1 := by
  rw [escOf]
  split
  · next hend => simp [isReserved, hend]
  · next hend =>
    split
    · next hesc => simp [isReserved, hesc]
    · next hesc =>
      split
      · next hstart => simp [isReserved, hstart]
      · next hstart => simp [isReserved, hend, hesc, hstart]

theorem length_escBody (p : List Byte) : (escBody p).length = p.length + reservedCount p := by
  induction p with
  | nil => rfl
  | cons b p ih =>
    have hcons : (escBody (b :: p)).length = (escOf b).length + (escBody p).length := by simp [escBody]
    rw [hcons, ih, length_escOf, reservedCount, reservedCount, List.countP_cons, List.length_cons]
    split_ifs <;> omega

theorem length_encodeFrame (p : List Byte) : (encodeFrame p).length = p.length + 2 + reservedCount p := by
  simp only [encodeFrame, List.length_append, List.length_cons, List.length_nil, length_escBody]
  omega

/-! ## The obligations -/

/-- Settles O12: the effects of the words merge into one, which opens its own frame where none is open. -/
theorem transmitRunsEncode : Obligations.TransmitRunsEncode := by
  refine ⟨fun p s rest ts hr ho hq ht => ?_, fun p => ⟨rfl, fun b => rfl⟩⟩
  have hs : s = s.offering (p.map txdWord ++ txeWord :: rest) (List.replicate (p.length + 1) .client ++ ts) := by
    rw [← hq, ← ht]
    rfl
  calc runSteps (p.length + 1) s
    _ = .next ((s.transmit (escBody p ++ [endByte]) false).offering rest ts) := by
      rw [hs, runSteps_txd_txe p rest ts hr]
      rfl
    _ = .next { s with txOpen := false, txOut := s.txOut ++ encodeFrame p, clientQ := rest, turns := ts } := by
      rw [State.transmit_of_not_open ho]
      rfl

/-- Settles O13: each reserved byte costs one byte more than another, and at most every byte is reserved. -/
theorem encodeLengthLaw : Obligations.EncodeLengthLaw := by
  intro p
  have hlength := length_encodeFrame p
  have hle : reservedCount p ≤ p.length := List.countP_le_length
  exact ⟨hlength, by omega, by omega⟩

/-- Settles O10: each row is the one TXD takes for its byte, and it sends that byte's escape sequence. -/
theorem txdSendsEscapedByte : Obligations.TxdSendsEscapedByte := by
  refine ⟨fun ctx => ⟨decodeWord_txdWord ctx endByte, decodeWord_txdWord ctx escByte, decodeWord_txdWord ctx startByte,
    fun b hend hesc hstart => ?_⟩, by decide, fun s hr => ⟨afterReset_sendByte hr, afterReset_sendByte hr,
    afterReset_sendByte hr, fun b _ _ _ => afterReset_sendByte hr⟩⟩
  rw [← txdWord_eq_or, decodeWord_txdWord, decodeTxd_of_unreserved hend hesc hstart]

/-- Settles O11: TXE is the transmit effect of END that leaves no frame open. -/
theorem txeClosesFrame : Obligations.TxeClosesFrame :=
  ⟨decodeWord_txeWord, fun _ hr => exec_txe hr⟩

end Sys2Proof.Machine

end

section
/-! PROOFS. The family of 41_framer.md: the RX rows (R121 to R126), the words they decode from, and the reception of byte
lists in chunks (R127 to R130). -/

namespace Sys2Proof

open Sys2Proof.Machine

/-! ## RX words by mask and match (R74) -/

/-- The group part of the masks keeps the group whole. -/
theorem and_fullGroup (g : BitVec 2) : g &&& 3#2 = g := BitVec.and_allOnes

/-- The mask `0x6FF` of rows 1 and 3 keeps the group and the byte. -/
theorem and_0x6FF_eq_iff (w : CmdWord) (b : Byte) :
    w &&& 0x6FF#11 = rxWord false b ↔ cmdGroup w = 0b00#2 ∧ cmdByte w = b := by
  have hmask : 0x6FF#11 = cmdWord (.allOnes 2) false (.allOnes 8) := by decide
  conv_lhs => rw [hmask, ← cmdWord_fields w]
  simp [rxWord, and_fullGroup]

/-- The mask `0x600` of rows 2 and 4 keeps the group. -/
theorem and_0x600_eq_iff (w : CmdWord) : w &&& 0x600#11 = 0x000#11 ↔ cmdGroup w = 0b00#2 := by
  have hmask : 0x600#11 = cmdWord (.allOnes 2) false 0x00#8 := by decide
  have hpat : 0x000#11 = cmdWord 0b00#2 false 0x00#8 := by decide
  conv_lhs => rw [hmask, hpat, ← cmdWord_fields w]
  simp [and_fullGroup]

/-- The mask `0x700` of rows 5 and 6 keeps the group and `eoc`. -/
theorem and_0x700_eq_iff (w : CmdWord) (eoc : Bool) :
    w &&& 0x700#11 = rxWord eoc 0x00#8 ↔ cmdGroup w = 0b00#2 ∧ cmdBit8 w = eoc := by
  have hmask : 0x700#11 = cmdWord (.allOnes 2) true 0x00#8 := by decide
  conv_lhs => rw [hmask, ← cmdWord_fields w]
  simp [rxWord, and_fullGroup]

theorem decodeWord_of_cmdGroup_rx {w : CmdWord} (h : cmdGroup w = 0b00#2) (ctx : FramerState) :
    decodeWord ctx w = .ok (decodeRx ctx (cmdBit8 w) (cmdByte w)) := by
  rw [decodeWord, if_pos h]

/-- A word that passes the match of a row with a byte of its own decodes as the RX of that byte. -/
theorem decodeWord_of_and_0x6FF {w : CmdWord} {b : Byte} (h : w &&& 0x6FF#11 = rxWord false b) (ctx : FramerState) :
    decodeWord ctx w = .ok (decodeRx ctx (cmdBit8 w) b) := by
  obtain ⟨hgroup, hbyte⟩ := (and_0x6FF_eq_iff w b).1 h
  rw [decodeWord_of_cmdGroup_rx hgroup, hbyte]

/-- An RX word that fails the match of a row with a byte of its own is the RX of another byte. -/
theorem cmdByte_ne_of_and_0x6FF_ne {w : CmdWord} {b : Byte} (hgroup : cmdGroup w = 0b00#2)
    (h : w &&& 0x6FF#11 ≠ rxWord false b) : cmdByte w ≠ b :=
  fun hbyte => h ((and_0x6FF_eq_iff w b).2 ⟨hgroup, hbyte⟩)

/-- A word that passes the match of a row of DISCARD decodes as the row of its `eoc`. -/
theorem decodeWord_of_and_0x700 {w : CmdWord} {eoc : Bool} (h : w &&& 0x700#11 = rxWord eoc 0x00#8)
    (ctx : FramerState) : decodeWord ctx w = .ok (decodeRx ctx eoc (cmdByte w)) := by
  obtain ⟨hgroup, heoc⟩ := (and_0x700_eq_iff w eoc).1 h
  rw [decodeWord_of_cmdGroup_rx hgroup, heoc]

end Sys2Proof

namespace Sys2Proof.Machine

open Sys2Proof.Config

/-! ## The effect of a received byte (R120) -/

/-- What the row chosen for a byte in the framer state `ctx` does once it is enabled (R121 to R126). -/
def State.receiveByte (ctx : FramerState) (eoc : Bool) (b : Byte) : State → State :=
  match ctx with
  | .hunt => if b = startByte then State.enterFrame else id
  | .frame => if b = endByte then State.endFrame eoc else State.storeByte b
  | .discard => if eoc then State.setDiscard false else id

theorem exec_decodeRx (ctx : FramerState) (eoc : Bool) (b : Byte) (s : State) :
    exec (decodeRx ctx eoc b) s = rxOp (State.receiveByte ctx eoc b) s := by
  cases ctx with
  | hunt => by_cases hb : b = startByte <;> simp only [decodeRx, State.receiveByte, hb, if_true, if_false] <;> rfl
  | frame => by_cases hb : b = endByte <;> simp only [decodeRx, State.receiveByte, hb, if_true, if_false] <;> rfl
  | discard => cases eoc <;> rfl

theorem rxOp_congr {f g : State → State} {s : State} (h : f s = g s) : rxOp f s = rxOp g s := by
  simp only [rxOp, afterReset, whenFree, h]

/-- Outside DISCARD only the end of a frame reads `eoc`, and only in FIRST_PER_CHUNK (R127). -/
theorem State.receiveByte_eoc_of_allFrames {ctx : FramerState} (hctx : ctx ≠ .discard) {s : State}
    (hmode : s.params.frameMode = .allFrames) (b : Byte) :
    s.receiveByte ctx true b = s.receiveByte ctx false b := by
  cases ctx with
  | hunt => rfl
  | frame =>
    have hend : s.endFrame true = s.endFrame false := by simp [State.endFrame_eq, hmode]
    by_cases hb : b = endByte
    · simpa only [State.receiveByte, if_pos hb] using hend
    · simp only [State.receiveByte, if_neg hb]
  | discard => exact absurd rfl hctx

/-- Outside DISCARD `eoc` decides `discard` alone (R127). -/
theorem State.receiveByte_eoc {ctx : FramerState} (hctx : ctx ≠ .discard) (b : Byte) (s : State) :
    s.receiveByte ctx true b = (s.receiveByte ctx false b).setDiscard (s.receiveByte ctx true b).discard := by
  cases ctx with
  | hunt => rfl
  | frame =>
    by_cases hb : b = endByte
    · simp [State.receiveByte, hb, State.endFrame_eq, State.setDiscard]
    · simp only [State.receiveByte, if_neg hb]
      rfl
  | discard => exact absurd rfl hctx

/-! ## The record that a frame's end writes (R123) -/

/-- The frame's end leaves a valid record with the decode's status and every field that status carries. -/
theorem State.endFrame_res (eoc : Bool) (s : State) :
    (s.endFrame eoc).res.valid = true ∧
      (s.endFrame eoc).res.status = (decodeFrame s.params s.acc s.ovf).status ∧
      ∀ (blank : Res) (f : ResField), carries (s.endFrame eoc).res.status f = true →
        (s.endFrame eoc).res.agreeOn ((decodeFrame s.params s.acc s.ovf).record blank) f := by
  rw [State.endFrame_eq]
  refine ⟨by simp, by simp, fun blank f hf => ?_⟩
  exact FrameOutcome.record_agreeOn _ blank _ f (by simpa using hf)

/-- The example of R123: the frame of an acknowledgement with no payload. -/
theorem decodeFrame_ackFrame {p : Params} (hp : p.crcInvert = true) :
    decodeFrame p [0x80#8, 0x23#8, 0xCC#8, 0x00#8, 0x00#8] false =
      .ok 0x80#8 0xCC23#16 0xCC23#16 0x0000#16 5 [] := by
  have hraw : deescape p.escUnknownMode [0x80#8, 0x23#8, 0xCC#8, 0x00#8, 0x00#8] =
      [0x80#8, 0x23#8, 0xCC#8, 0x00#8, 0x00#8] := by
    cases p.escUnknownMode <;> decide
  have hcrc : frameCrc p [0x80#8, 0x23#8, 0xCC#8, 0x00#8, 0x00#8] = 0xCC23#16 := by
    rw [frameCrc, hp]
    decide +kernel
  rw [decodeFrame, hraw, decodeDeescaped, hcrc]
  decide

/-! ## De-escaping an escaped packet (R157) -/

/-- The de-escaper reads one packet byte's wire sequence and goes on after it. -/
theorem deescape_escOf_append (mode : EscUnknownMode) (b : Byte) (rest : List Byte) :
    deescape mode (escOf b ++ rest) = b :: deescape mode rest := by
  unfold escOf
  split_ifs with hend hesc hstart
  · simp [deescape, hend]
  · simp [deescape, hesc, escEnd, escEsc]
  · simp [deescape, hstart, escEnd, escEsc, escStart]
  · cases rest <;> simp [deescape, hesc]

theorem deescape_escBody (mode : EscUnknownMode) (p : List Byte) : deescape mode (escBody p) = p := by
  induction p with
  | nil => rfl
  | cons b p ih =>
    have hcons : escBody (b :: p) = escOf b ++ escBody p := List.flatMap_cons
    rw [hcons, deescape_escOf_append, ih]

/-- END is escaped wherever it stands in a packet, so none stands inside the frame (R108). -/
theorem endByte_notMem_escBody (p : List Byte) : endByte ∉ escBody p := by
  suffices h : ∀ b : Byte, endByte ∉ escOf b by simpa [escBody] using fun b _ => h b
  intro b
  unfold escOf
  split_ifs with hend
  · decide
  · decide
  · decide
  · simpa using Ne.symm hend

theorem encodeFrame_eq_append (p : List Byte) : encodeFrame p = (startByte :: escBody p) ++ [endByte] := rfl

/-! ## The reception of one word -/

theorem takeProduced_of_not_valid {t : State} (hv : t.res.valid = false) : takeProduced t = some (t, []) := by
  simp [takeProduced, hv]

theorem takeProduced_of_valid {t : State} (hr : t.resetDone = true) (hv : t.res.valid = true) :
    takeProduced t = some (t.releaseResult, [t.res]) := by
  have htake : exec .take t = .next t.releaseResult :=
    afterReset_next_iff.2 ⟨hr, by rw [State.takeResult, if_pos hv]⟩
  rw [takeProduced, if_pos hv, htake]

/-- With no result waiting a received byte has its effect, and what that produces is taken (R128). -/
theorem receiveWord_rxWord {s : State} (hr : s.resetDone = true) (hv : s.res.valid = false) (eoc : Bool) (b : Byte) :
    receiveWord (rxWord eoc b) s = takeProduced (s.receiveByte s.framerState eoc b) := by
  have hfree : takeWaiting s = .next s := by simp [takeWaiting, State.rxHeld, hv]
  have hexec : exec (decodeRx s.framerState eoc b) s = .next (s.receiveByte s.framerState eoc b) := by
    rw [exec_decodeRx, rxOp_enabled hr hv]
  simp only [receiveWord, decodeWord_rxWord, hfree, hexec]

theorem receiveWord_start {s : State} (hr : s.resetDone = true) (hv : s.res.valid = false)
    (hhunt : s.framerState = .hunt) (eoc : Bool) :
    receiveWord (rxWord eoc startByte) s = some (s.enterFrame, []) := by
  rw [receiveWord_rxWord hr hv, hhunt]
  exact takeProduced_of_not_valid hv

theorem receiveWord_data {s : State} (hr : s.resetDone = true) (hv : s.res.valid = false)
    (hframe : s.framerState = .frame) {b : Byte} (hb : b ≠ endByte) (eoc : Bool) :
    receiveWord (rxWord eoc b) s = some (s.storeByte b, []) := by
  rw [receiveWord_rxWord hr hv, hframe, State.receiveByte, if_neg hb]
  exact takeProduced_of_not_valid (by rw [State.storeByte_eq]; exact hv)

theorem receiveWord_end {s : State} (hr : s.resetDone = true) (hv : s.res.valid = false)
    (hframe : s.framerState = .frame) (eoc : Bool) :
    receiveWord (rxWord eoc endByte) s = some ((s.endFrame eoc).releaseResult, [(s.endFrame eoc).res]) := by
  have hreset : (s.endFrame eoc).resetDone = true := by rw [State.endFrame_eq]; exact hr
  rw [receiveWord_rxWord hr hv, hframe]
  exact takeProduced_of_valid hreset (s.endFrame_res eoc).1

/-! ## The reception of words in order -/

theorem receiveWords_cons {w : CmdWord} {ws : List CmdWord} {s t u : State} {rs qs : List Res}
    (hw : receiveWord w s = some (t, rs)) (hws : receiveWords ws t = some (u, qs)) :
    receiveWords (w :: ws) s = some (u, rs ++ qs) := by
  simp only [receiveWords, hw, hws]

theorem receiveWords_append {ws vs : List CmdWord} {s t u : State} {rs qs : List Res}
    (hws : receiveWords ws s = some (t, rs)) (hvs : receiveWords vs t = some (u, qs)) :
    receiveWords (ws ++ vs) s = some (u, rs ++ qs) := by
  induction ws generalizing s rs with
  | nil =>
    obtain ⟨rfl, rfl⟩ : s = t ∧ [] = rs := by simpa [receiveWords] using hws
    exact hvs
  | cons w ws ih =>
    simp only [receiveWords] at hws
    split at hws
    · cases hws
    next t' first hw =>
      split at hws
      · cases hws
      next u' more hrest =>
        obtain ⟨rfl, rfl⟩ : u' = t ∧ first ++ more = rs := by simpa using hws
        rw [List.append_assoc]
        exact receiveWords_cons hw (ih hrest)

/-- `ws` are RX words of the bytes `bs`, with any `eoc` each: a way of feeding `bs` in chunks (R78). -/
def AreRxWordsOf (ws : List CmdWord) (bs : List Byte) : Prop :=
  List.Forall₂ (fun w b => ∃ eoc, w = rxWord eoc b) ws bs

theorem AreRxWordsOf.append {ws vs : List CmdWord} {bs cs : List Byte} (hws : AreRxWordsOf ws bs)
    (hvs : AreRxWordsOf vs cs) : AreRxWordsOf (ws ++ vs) (bs ++ cs) :=
  List.rel_append hws hvs

theorem rxWords_areRxWordsOf (last : Bool) (bs : List Byte) : AreRxWordsOf (rxWords last bs) bs := by
  fun_induction rxWords last bs with
  | case1 => exact .nil
  | case2 b => exact .cons ⟨last, rfl⟩ .nil
  | case3 b c rest ih => exact .cons ⟨false, rfl⟩ ih

theorem flatMap_rxWords_areRxWordsOf (chunks : List (List Byte)) :
    AreRxWordsOf (chunks.flatMap (rxWords true)) chunks.flatten := by
  induction chunks with
  | nil => exact .nil
  | cons c chunks ih => exact (rxWords_areRxWordsOf true c).append ih

/-- The last byte of a chunk is the only one that may carry `eoc` (R78). -/
theorem rxWords_append_singleton (last : Bool) (bs : List Byte) (b : Byte) :
    rxWords last (bs ++ [b]) = rxWords false bs ++ [rxWord last b] := by
  induction bs with
  | nil => rfl
  | cons c bs ih => cases bs with
    | nil => rfl
    | cons d bs => simpa [rxWords] using ih

/-! ## A frame in flight -/

/-- Storing bytes in order (R124). -/
def State.storeBytes (bs : List Byte) (s : State) : State := bs.foldl (fun t b => t.storeByte b) s

/-- Storing bytes writes the accumulator and the overflow flag only. -/
theorem State.storeBytes_eq (bs : List Byte) (s : State) :
    s.storeBytes bs = { s with acc := (s.storeBytes bs).acc, ovf := (s.storeBytes bs).ovf } := by
  induction bs generalizing s with
  | nil => rfl
  | cons b bs ih =>
    have hcons : s.storeBytes (b :: bs) = (s.storeByte b).storeBytes bs := rfl
    rw [hcons, ih, State.storeByte_eq]

/-- Bytes that all find room are appended in order (R124). -/
theorem State.storeBytes_of_room {bs : List Byte} {s : State} (h : s.acc.length + bs.length ≤ s.params.maxRawLen) :
    s.storeBytes bs = { s with acc := s.acc ++ bs } := by
  induction bs generalizing s with
  | nil => simp [State.storeBytes]
  | cons b bs ih =>
    have hroom : s.acc.length < s.params.maxRawLen := by simp at h; omega
    have hstore : s.storeByte b = s.accAppend b := by rw [State.storeByte, if_pos hroom]
    calc s.storeBytes (b :: bs)
      _ = (s.accAppend b).storeBytes bs := by rw [← hstore]; rfl
      _ = { s.accAppend b with acc := (s.accAppend b).acc ++ bs } := ih (by simp at h ⊢; omega)
      _ = { s with acc := s.acc ++ b :: bs } := by simp [State.accAppend]

/-- The state with the frame that `body` begins in flight: after START and the bytes of `body` (R121, R124). -/
def State.inFlight (body : List Byte) (s : State) : State := s.enterFrame.storeBytes body

/-- A frame in flight writes the framer's fields only. -/
theorem State.inFlight_eq (body : List Byte) (s : State) :
    s.inFlight body =
      { s with inFrame := true, acc := (s.inFlight body).acc, ovf := (s.inFlight body).ovf } :=
  State.storeBytes_eq body s.enterFrame

theorem State.inFlight_of_room {body : List Byte} {s : State} (h : body.length ≤ s.params.maxRawLen) :
    s.inFlight body = { s with inFrame := true, acc := body, ovf := false } :=
  State.storeBytes_of_room (s := s.enterFrame) (by simpa using h)

section
variable {s : State} (hr : s.resetDone = true) (hv : s.res.valid = false)
include hr hv

/-- In FRAME the bytes before END are stored, wherever the chunks end (R124, R127). -/
theorem receiveWords_data (hframe : s.framerState = .frame) {ws : List CmdWord} {bs : List Byte}
    (hws : AreRxWordsOf ws bs) (hend : endByte ∉ bs) : receiveWords ws s = some (s.storeBytes bs, []) := by
  induction hws generalizing s with
  | nil => rfl
  | @cons w b ws bs hw _ ih =>
    obtain ⟨eoc, rfl⟩ := hw
    obtain ⟨hb, hbs⟩ : endByte ≠ b ∧ endByte ∉ bs := by simpa using hend
    have hstored : receiveWords ws (s.storeByte b) = some ((s.storeByte b).storeBytes bs, []) := by
      apply ih _ _ _ hbs <;> rw [State.storeByte_eq]
      · exact hr
      · exact hv
      · exact hframe
    exact receiveWords_cons (receiveWord_data hr hv hframe hb.symm eoc) hstored

/-- From HUNT the bytes of a frame before its END leave it in flight, wherever the chunks end (R121, R124, R127). -/
theorem receiveWords_frame_open (hhunt : s.framerState = .hunt) {ws : List CmdWord} {body : List Byte}
    (hws : AreRxWordsOf ws (startByte :: body)) (hend : endByte ∉ body) :
    receiveWords ws s = some (s.inFlight body, []) := by
  obtain ⟨-, hdiscard⟩ := s.framerState_eq_hunt_iff.1 hhunt
  cases hws with
  | cons hw hws =>
    obtain ⟨eoc, rfl⟩ := hw
    have hopened : s.enterFrame.framerState = .frame := s.enterFrame.framerState_eq_frame_iff.2 ⟨rfl, hdiscard⟩
    exact receiveWords_cons (receiveWord_start hr hv hhunt eoc) 
      (receiveWords_data (s := s.enterFrame) hr hv hopened hws hend)

/-- From HUNT a whole frame gives its one record, wherever the chunks end before its END (R123, R130). -/
theorem receiveWords_frame (hhunt : s.framerState = .hunt) {ws : List CmdWord} {body : List Byte}
    (hws : AreRxWordsOf ws (startByte :: body)) (hend : endByte ∉ body) (eoc : Bool) :
    receiveWords (ws ++ [rxWord eoc endByte]) s =
      some (((s.inFlight body).endFrame eoc).releaseResult, [((s.inFlight body).endFrame eoc).res]) := by
  have hflight := s.inFlight_eq body
  have hr' : (s.inFlight body).resetDone = true := by rw [hflight]; exact hr
  have hv' : (s.inFlight body).res.valid = false := by rw [hflight]; exact hv
  have hframe : (s.inFlight body).framerState = .frame := by
    obtain ⟨-, hdiscard⟩ := s.framerState_eq_hunt_iff.1 hhunt
    rw [hflight]
    exact (State.framerState_eq_frame_iff _).2 ⟨rfl, hdiscard⟩
  exact receiveWords_append (receiveWords_frame_open hr hv hhunt hws hend)
    (receiveWords_cons (receiveWord_end hr' hv' hframe eoc) rfl)

/-- `encode(P)` as one chunk: the END is the byte that carries `eoc` (R129). -/
theorem decodeIncremental_encodeFrame (hhunt : s.framerState = .hunt) (p : List Byte) :
    decodeIncremental (encodeFrame p) s =
      some (((s.inFlight (escBody p)).endFrame true).releaseResult,
        [((s.inFlight (escBody p)).endFrame true).res]) := by
  rw [decodeIncremental, if_neg (by simp [encodeFrame]), encodeFrame_eq_append, rxWords_append_singleton]
  exact receiveWords_frame hr hv hhunt (rxWords_areRxWordsOf false _) (endByte_notMem_escBody p) true

end

/-- However bytes that end in `b` are split into chunks, the last word is that of `b` and ends its chunk, and the words before it
are RX words of the bytes before `b`. -/
theorem flatMap_rxWords_of_flatten_eq {chunks : List (List Byte)} {bs : List Byte} {b : Byte}
    (hne : ∀ c ∈ chunks, c ≠ []) (h : chunks.flatten = bs ++ [b]) :
    ∃ ws, AreRxWordsOf ws bs ∧ chunks.flatMap (rxWords true) = ws ++ [rxWord true b] := by
  obtain rfl | ⟨front, c, rfl⟩ := chunks.eq_nil_or_concat
  · simp at h
  · obtain rfl | ⟨d, b', rfl⟩ := c.eq_nil_or_concat
    · exact absurd rfl (hne [] (by simp))
    · have hsplit : front.flatten ++ d ++ [b'] = bs ++ [b] := by simpa using h
      obtain ⟨hbs, hb⟩ := List.append_inj' hsplit rfl
      obtain rfl : b' = b := by simpa using hb
      refine ⟨front.flatMap (rxWords true) ++ rxWords false d, ?_, ?_⟩
      · exact hbs ▸ (flatMap_rxWords_areRxWordsOf front).append (rxWords_areRxWordsOf false d)
      · simp [rxWords_append_singleton]

/-! ## The obligations -/

/-- Settles O22: outside DISCARD `eoc` decides `discard` alone, and that only in FIRST_PER_CHUNK. -/
theorem chunkBoundaryIsInvisible : Obligations.ChunkBoundaryIsInvisible := by
  intro s b ctx hctx
  simp only [exec_decodeRx]
  refine ⟨fun hmode => answersAgree_of_eq (rxOp_congr (State.receiveByte_eoc_of_allFrames hctx hmode b)),
    fun t u ht hu => ?_⟩
  obtain ⟨-, ⟨hv, rfl⟩ | ⟨hv, rfl⟩⟩ := rxOp_next_iff.1 ht
  · obtain ⟨-, ⟨-, rfl⟩ | ⟨hfree, -⟩⟩ := rxOp_next_iff.1 hu
    · exact ⟨rfl, rfl, rfl⟩
    · simp [hv] at hfree
  · obtain ⟨-, ⟨hheld, -⟩ | ⟨-, rfl⟩⟩ := rxOp_next_iff.1 hu
    · simp [hv] at hheld
    · rw [State.receiveByte_eoc hctx]
      exact ⟨rfl, rfl, rfl⟩

/-- Settles O24: the frame in flight holds the escaped packet, its END decodes that, and `eoc` on the END starts no DISCARD. -/
theorem receiveRoundTrip : Obligations.ReceiveRoundTrip := by
  intro P s hr hv hframe hdiscard hlen
  have hhunt : s.framerState = .hunt := s.framerState_eq_hunt_iff.2 ⟨hframe, hdiscard⟩
  have hroom : (escBody P).length ≤ s.params.maxRawLen := by simpa [encodeFrame] using hlen
  have hflight : s.inFlight (escBody P) = { s with inFrame := true, acc := escBody P, ovf := false } :=
    State.inFlight_of_room hroom
  refine ⟨_, _, decodeIncremental_encodeFrame hr hv hhunt P, ?_, ?_, ⟨s.inFlight (escBody P), ?_, ?_⟩, ?_⟩
  · rw [hflight, State.endFrame_eq]
    exact (State.framerState_eq_hunt_iff _).2 ⟨rfl, by simp [hdiscard]⟩
  · rw [State.endFrame_eq]
    rfl
  · rw [encodeFrame_eq_append, List.dropLast_concat]
    exact receiveWords_frame_open hr hv hhunt (rxWords_areRxWordsOf false _) (endByte_notMem_escBody P)
  · rw [hflight]
    exact ⟨(State.framerState_eq_frame_iff _).2 ⟨rfl, hdiscard⟩, rfl, rfl⟩
  · obtain ⟨hvalid, hstatus, hfields⟩ := (s.inFlight (escBody P)).endFrame_res true
    simp only [hflight] at hvalid hstatus hfields ⊢
    exact ⟨hvalid, hstatus, hfields, deescape_escBody _ P⟩

/-- Settles O25: either way the frame in flight is the same, and its END ends a chunk. -/
theorem chunkSplittingIsInvisible : Obligations.ChunkSplittingIsInvisible := by
  intro P chunks s hr hv hframe hdiscard hne hflat
  have hhunt : s.framerState = .hunt := s.framerState_eq_hunt_iff.2 ⟨hframe, hdiscard⟩
  obtain ⟨ws, hws, hwords⟩ := flatMap_rxWords_of_flatten_eq hne (hflat.trans (encodeFrame_eq_append P))
  have hsplit : decodeChunks chunks s = decodeIncremental (encodeFrame P) s := by
    rw [decodeIncremental_encodeFrame hr hv hhunt, decodeChunks, if_neg fun hnil => hne [] hnil rfl, hwords]
    exact receiveWords_frame hr hv hhunt hws (endByte_notMem_escBody P) true
  rw [hsplit, decodeIncremental_encodeFrame hr hv hhunt]
  exact ⟨_, rfl, receptionsAgree_refl _⟩

/-- Settles O15: row 1 is the RX of START in HUNT, and its effect is to enter FRAME. -/
theorem rxHuntStartOpensFrame : Obligations.RxHuntStartOpensFrame := by
  have hexec : ∀ (eoc : Bool) (s : State), s.resetDone = true → s.res.valid = false →
      exec (.rxHuntStart eoc) s = .next s.enterFrame := fun _ _ hr hv => rxOp_enabled hr hv
  refine ⟨fun _ hw => decodeWord_of_and_0x6FF (b := startByte) hw .hunt, hexec,
    fun p => ⟨_, hexec false (State.resetWith p) rfl rfl, ?_⟩⟩
  simp [State.statusView, State.resetWith]

/-- Settles O16: an RX word that is not row 1's is row 2's, which has no effect. -/
theorem rxHuntSkipIgnoresByte : Obligations.RxHuntSkipIgnoresByte := by
  refine ⟨fun w hrx hw => ?_, fun _ _ _ _ hr hv => rxOp_enabled hr hv⟩
  have hgroup : cmdGroup w = 0b00#2 := (and_0x600_eq_iff w).1 hrx
  rw [decodeWord_of_cmdGroup_rx hgroup, decodeRx, if_neg (cmdByte_ne_of_and_0x6FF_ne (b := startByte) hgroup hw)]

/-- Settles O17: row 3 is the RX of END in FRAME, and its effect writes the record of the accumulated bytes. -/
theorem rxFrameEndDeliversResult : Obligations.RxFrameEndDeliversResult := by
  refine ⟨fun _ hw => decodeWord_of_and_0x6FF (b := endByte) hw .frame, fun _ => rfl, fun _ => decodeFrame_ackFrame,
    fun eoc s hr hv => ⟨(s.endFrame eoc).res, s.draws + 1, ?_, s.endFrame_res eoc⟩⟩
  have hexec : exec (.rxFrameEnd eoc) s = .next (s.endFrame eoc) := rxOp_enabled hr hv
  rw [hexec, State.endFrame_eq]

/-- Settles O18: an RX word that is not row 3's is row 4's, which stores its byte. -/
theorem rxFrameDataStoresByte : Obligations.RxFrameDataStoresByte := by
  refine ⟨fun w hrx hw => ?_, fun eoc b s _ hr hv => ?_⟩
  · have hgroup : cmdGroup w = 0b00#2 := (and_0x600_eq_iff w).1 hrx
    rw [decodeWord_of_cmdGroup_rx hgroup, decodeRx, if_neg (cmdByte_ne_of_and_0x6FF_ne (b := endByte) hgroup hw)]
  · have hexec : exec (.rxFrameData eoc b) s = .next (s.storeByte b) := rxOp_enabled hr hv
    rw [hexec, State.storeByte]
    exact ⟨fun hroom => by rw [if_pos hroom]; rfl, fun hfull => by rw [if_neg hfull.not_gt]; rfl⟩

/-- Settles O19: row 6 is the RX of a byte with `eoc = 0` in DISCARD, and it has no effect. -/
theorem rxDiscardDropKeepsState : Obligations.RxDiscardDropKeepsState :=
  ⟨fun _ hw => decodeWord_of_and_0x700 (eoc := false) hw .discard, fun _ _ hr hv => rxOp_enabled hr hv⟩

/-- Settles O20: row 5 is the RX of a byte with `eoc = 1` in DISCARD, and its effect is to clear `discard`. -/
theorem rxDiscardLastEndsDiscard : Obligations.RxDiscardLastEndsDiscard :=
  ⟨fun _ hw => decodeWord_of_and_0x700 (eoc := true) hw .discard, fun _ _ hr hv => rxOp_enabled hr hv,
    fun _ hframe => (State.framerState_eq_hunt_iff _).2 ⟨hframe, rfl⟩⟩

end Sys2Proof.Machine

end

section
/-! PROOFS. The family of 42_deescape.md: the cases of the scan (R150 to R156), the inverse of escaping (R157), and the
streaming form and the lengths (R158). -/

namespace Sys2Proof.Machine

open Sys2Proof.Config

/-! ## The window's row, case by case (R76) -/

theorem decodeWindow_window_of_ne {b : Byte} (hb : b ≠ escByte) (next : Option Byte) :
    decodeWindow (window b next) = .deLit b next := by
  cases next <;> simp [decodeWindow, hb]

theorem decodeWindow_window_esc_of_unknown {c : Byte} (hend : c ≠ escEnd) (hesc : c ≠ escEsc) (hstart : c ≠ escStart) :
    decodeWindow (window escByte (some c)) = .deEscBad c := by
  simp [decodeWindow, hend, hesc, hstart]

/-! ## The function, case by case (R151 to R156) -/

section
variable (mode : EscUnknownMode) (rest : List Byte)

theorem deescape_cons_of_ne {b : Byte} (hb : b ≠ escByte) : deescape mode (b :: rest) = b :: deescape mode rest := by
  cases rest <;> simp [deescape, hb]

theorem deescape_esc_escEnd : deescape mode (escByte :: escEnd :: rest) = endByte :: deescape mode rest := by
  simp [deescape]

theorem deescape_esc_escEsc : deescape mode (escByte :: escEsc :: rest) = escByte :: deescape mode rest := by
  simp [deescape, show escEsc ≠ escEnd by decide]

theorem deescape_esc_escStart : deescape mode (escByte :: escStart :: rest) = startByte :: deescape mode rest := by
  simp [deescape, show escStart ≠ escEnd by decide, show escStart ≠ escEsc by decide]

/-- Before any other byte the mode decides: the ESC alone is dropped, or the pair (R155). -/
theorem deescape_esc_of_unknown {c : Byte} (hend : c ≠ escEnd) (hesc : c ≠ escEsc) (hstart : c ≠ escStart) :
    deescape mode (escByte :: c :: rest) =
      match mode with
      | .dropEsc => deescape mode (c :: rest)
      | .dropPair => deescape mode rest := by
  cases mode <;> simp [deescape, hend, hesc, hstart]

end

/-! ## The streaming form (R158) -/

section
variable (mode : EscUnknownMode)

theorem deescapeStream_esc (rest : List Byte) :
    deescapeStream mode false (escByte :: rest) = deescapeStream mode true rest := by
  simp [deescapeStream]

theorem deescapeStream_cons_of_ne {b : Byte} (hb : b ≠ escByte) (rest : List Byte) :
    deescapeStream mode false (b :: rest) = b :: deescapeStream mode false rest := by
  simp [deescapeStream, hb]

theorem deescapeStream_pending_escEnd (rest : List Byte) :
    deescapeStream mode true (escEnd :: rest) = endByte :: deescapeStream mode false rest := by
  simp [deescapeStream]

theorem deescapeStream_pending_escEsc (rest : List Byte) :
    deescapeStream mode true (escEsc :: rest) = escByte :: deescapeStream mode false rest := by
  simp [deescapeStream, show escEsc ≠ escEnd by decide]

theorem deescapeStream_pending_escStart (rest : List Byte) :
    deescapeStream mode true (escStart :: rest) = startByte :: deescapeStream mode false rest := by
  simp [deescapeStream, show escStart ≠ escEnd by decide, show escStart ≠ escEsc by decide]

/-- Under DROP_ESC the byte after an ESC that begins no pair is read as if nothing were pending; under DROP_PAIR it is dropped. -/
theorem deescapeStream_pending_of_unknown {c : Byte} (hend : c ≠ escEnd) (hesc : c ≠ escEsc) (hstart : c ≠ escStart)
    (rest : List Byte) :
    deescapeStream mode true (c :: rest) =
      match mode with
      | .dropEsc => deescapeStream mode false (c :: rest)
      | .dropPair => deescapeStream mode false rest := by
  cases mode <;> simp [deescapeStream, hend, hesc, hstart]

/-- A byte the stream reads gives at most one byte, whatever is pending. -/
theorem deescapeStream_cons (pending : Bool) (b : Byte) (rest : List Byte) :
    ∃ (out : List Byte) (pending' : Bool), out.length ≤ 1 ∧
      deescapeStream mode pending (b :: rest) = out ++ deescapeStream mode pending' rest := by
  have hfree : ∃ (out : List Byte) (pending' : Bool), out.length ≤ 1 ∧
      deescapeStream mode false (b :: rest) = out ++ deescapeStream mode pending' rest := by
    by_cases hb : b = escByte
    · exact ⟨[], true, Nat.zero_le 1, hb ▸ deescapeStream_esc mode rest⟩
    · exact ⟨[b], false, le_rfl, deescapeStream_cons_of_ne mode hb rest⟩
  cases pending with
  | false => exact hfree
  | true =>
    by_cases hend : b = escEnd
    · exact ⟨[endByte], false, le_rfl, hend ▸ deescapeStream_pending_escEnd mode rest⟩
    by_cases hesc : b = escEsc
    · exact ⟨[escByte], false, le_rfl, hesc ▸ deescapeStream_pending_escEsc mode rest⟩
    by_cases hstart : b = escStart
    · exact ⟨[startByte], false, le_rfl, hstart ▸ deescapeStream_pending_escStart mode rest⟩
    rw [deescapeStream_pending_of_unknown mode hend hesc hstart]
    cases mode with
    | dropEsc => exact hfree
    | dropPair => exact ⟨[], false, Nat.zero_le 1, rfl⟩

theorem length_deescapeStream_le (pending : Bool) (raw : List Byte) :
    (deescapeStream mode pending raw).length ≤ raw.length := by
  induction raw generalizing pending with
  | nil => simp [deescapeStream]
  | cons b rest ih =>
    obtain ⟨out, pending', hout, heq⟩ := deescapeStream_cons mode pending b rest
    have hrest := ih pending'
    rw [heq, List.length_append, List.length_cons]
    omega

/-- The first ESC gives no byte itself, so a stream with an ESC gets shorter. -/
theorem length_deescapeStream_lt {raw : List Byte} (hmem : escByte ∈ raw) :
    (deescapeStream mode false raw).length < raw.length := by
  induction raw with
  | nil => exact absurd hmem List.not_mem_nil
  | cons b rest ih =>
    by_cases hb : b = escByte
    · rw [hb, deescapeStream_esc]
      exact Nat.lt_succ_of_le (length_deescapeStream_le mode true rest)
    · rw [deescapeStream_cons_of_ne mode hb]
      exact Nat.succ_lt_succ (ih (List.mem_of_ne_of_mem (Ne.symm hb) hmem))

theorem deescapeStream_of_notMem {raw : List Byte} (hnot : escByte ∉ raw) : deescapeStream mode false raw = raw := by
  induction raw with
  | nil => rfl
  | cons b rest ih =>
    obtain ⟨hb, hrest⟩ := List.ne_and_not_mem_of_not_mem_cons hnot
    rw [deescapeStream_cons_of_ne mode hb.symm, ih hrest]

/-- R158: the pending flag stands for an ESC just read, and dropping it at the end drops a trailing ESC. -/
theorem deescapeStream_eq_deescape : ∀ raw : List Byte, deescapeStream mode false raw = deescape mode raw
  | [] => rfl
  | [b] => by simp [deescapeStream, deescape]
  | b :: c :: rest => by
    have ihRest := deescapeStream_eq_deescape rest
    have ihNext := deescapeStream_eq_deescape (c :: rest)
    by_cases hb : b = escByte
    · subst hb
      rw [deescapeStream_esc]
      by_cases hend : c = escEnd
      · rw [hend, deescapeStream_pending_escEnd, deescape_esc_escEnd, ihRest]
      by_cases hesc : c = escEsc
      · rw [hesc, deescapeStream_pending_escEsc, deescape_esc_escEsc, ihRest]
      by_cases hstart : c = escStart
      · rw [hstart, deescapeStream_pending_escStart, deescape_esc_escStart, ihRest]
      rw [deescapeStream_pending_of_unknown mode hend hesc hstart, deescape_esc_of_unknown mode rest hend hesc hstart]
      cases mode with
      | dropEsc => exact ihNext
      | dropPair => exact ihRest
    · rw [deescapeStream_cons_of_ne mode hb, deescape_cons_of_ne mode _ hb, ihNext]

end

/-- Settles O29: each packet byte's wire sequence gives the byte back, whatever follows it. -/
theorem deescapeUndoesEscaping : Obligations.DeescapeUndoesEscaping := deescape_escBody

/-- Settles O30: the streaming form by the scan's recursion, then its lengths byte by byte. -/
theorem deescapeLengthAndStreaming : Obligations.DeescapeLengthAndStreaming := by
  intro mode raw
  rw [← deescapeStream_eq_deescape]
  refine ⟨length_deescapeStream_le mode false raw, ⟨fun hlen hmem => ?_, fun hnot => ?_⟩, rfl⟩
  · exact (length_deescapeStream_lt mode hmem).ne hlen
  · rw [deescapeStream_of_notMem mode hnot]

/-- Settles O26: the window's row and the function's result, case by case. -/
theorem deescapeFollowsCases : Obligations.DeescapeFollowsCases := fun mode =>
  ⟨rfl,
    fun _ rest hb => ⟨decodeWindow_window_of_ne hb _, deescape_cons_of_ne mode rest hb⟩,
    fun rest => ⟨rfl, deescape_esc_escEnd mode rest⟩,
    fun rest => ⟨rfl, deescape_esc_escEsc mode rest⟩,
    fun rest => ⟨rfl, deescape_esc_escStart mode rest⟩,
    fun _ rest hend hesc hstart =>
      ⟨decodeWindow_window_esc_of_unknown hend hesc hstart,
        fun hmode => by subst hmode; exact deescape_esc_of_unknown _ rest hend hesc hstart,
        fun hmode => by subst hmode; exact deescape_esc_of_unknown _ rest hend hesc hstart⟩,
    rfl, rfl⟩

end Sys2Proof.Machine

end

section
/-! PROOFS. The family of 43_crc.md: the CRC engine's linearity and injectivity (R175), its chaining (R173, R174), and the
acceptance of a sealed packet (R177). -/

namespace Sys2Proof.Machine

open Sys2Proof.Config

/-! ## The complement at both ends (R170) -/

@[simp] theorem crcComplement_crcComplement (inv : Bool) (c : Half) : crcComplement inv (crcComplement inv c) = c := by
  cases inv <;> simp [crcComplement]

theorem crcComplement_injective (inv : Bool) : Function.Injective (crcComplement inv) :=
  Function.Involutive.injective (crcComplement_crcComplement inv)

/-- A difference of CRCs does not see whether both are complemented. -/
@[simp] theorem crcComplement_xor_crcComplement (inv : Bool) (c d : Half) :
    crcComplement inv c ^^^ crcComplement inv d = c ^^^ d := by
  cases inv
  · rfl
  · calc ~~~c ^^^ ~~~d = ~~~(~~~(c ^^^ d)) := by rw [BitVec.not_xor_right, BitVec.not_xor_left]
      _ = c ^^^ d := BitVec.not_not

/-! ## Chaining (R173, R174) -/

theorem crc16_nil (inv : Bool) (init : Half) : crc16 inv [] init = init := crcComplement_crcComplement inv init

/-- The complement that ends the first call is undone by the one that begins the second. -/
theorem crc16_crc16 (inv : Bool) (a b : List Byte) (init : Half) :
    crc16 inv b (crc16 inv a init) = crc16 inv (a ++ b) init := by
  simp [crc16]

/-! ## Linearity in differences (R175) -/

/-- What a shift XORs in when the bit it shifts out is `top`. -/
def crcFeedback (top : Bool) : Half := if top then crcPoly else 0x0000#16

theorem crcShift_eq (c : Half) : crcShift c = c <<< 1 ^^^ crcFeedback (c.getLsbD 15) := by
  unfold crcShift crcFeedback
  split_ifs
  · rfl
  · exact BitVec.xor_zero.symm

theorem crcShift_xor (c d : Half) : crcShift (c ^^^ d) = crcShift c ^^^ crcShift d := by
  have hpoly : crcFeedback (c.getLsbD 15 ^^ d.getLsbD 15) = crcFeedback (c.getLsbD 15) ^^^ crcFeedback (d.getLsbD 15) := by
    cases c.getLsbD 15 <;> cases d.getLsbD 15 <;> rfl
  rw [crcShift_eq, crcShift_eq, crcShift_eq, BitVec.getLsbD_xor, BitVec.shiftLeft_xor_distrib, hpoly]
  ac_rfl

theorem crcShifts_xor (n : Nat) (c d : Half) : crcShifts n (c ^^^ d) = crcShifts n c ^^^ crcShifts n d := by
  induction n generalizing c d with
  | zero => rfl
  | succ n ih => simp only [crcShifts, crcShift_xor, ih]

theorem crcByte_xor (c d : Half) (a b : Byte) : crcByte (c ^^^ d) (a ^^^ b) = crcByte c a ^^^ crcByte d b := by
  unfold crcByte
  rw [← crcShifts_xor, BitVec.setWidth_xor, BitVec.shiftLeft_xor_distrib]
  congr 1
  ac_rfl

/-- The register's difference after two inputs of equal length is the register after their difference. -/
theorem foldl_crcByte_xor {x y : List Byte} (h : x.length = y.length) (c d : Half) :
    x.foldl crcByte c ^^^ y.foldl crcByte d = (List.zipWith (· ^^^ ·) x y).foldl crcByte (c ^^^ d) := by
  induction x generalizing y c d with
  | nil => cases y with
    | nil => rfl
    | cons b y => cases h
  | cons a x ih => cases y with
    | nil => cases h
    | cons b y =>
      rw [List.foldl_cons, List.foldl_cons, ih (Nat.succ.inj h), List.zipWith_cons_cons, List.foldl_cons, crcByte_xor]

theorem crc16_xor_crc16 (inv : Bool) {x y : List Byte} (h : x.length = y.length) (i j : Half) :
    crc16 inv x i ^^^ crc16 inv y j = (List.zipWith (· ^^^ ·) x y).foldl crcByte (i ^^^ j) := by
  rw [crc16, crc16, crcComplement_xor_crcComplement, foldl_crcByte_xor h, crcComplement_xor_crcComplement]

/-! ## Injectivity in one byte (R175)

The polynomial is odd, so a shift moves bit 15 to bit 0 and loses nothing: every stage of the engine is injective. -/

theorem getLsbD_zero_crcShift (c : Half) : (crcShift c).getLsbD 0 = c.getLsbD 15 := by
  rw [crcShift_eq, BitVec.getLsbD_xor]
  cases c.getLsbD 15 <;> simp [crcFeedback, crcPoly]

theorem crcShift_injective : Function.Injective crcShift := by
  intro c d h
  have htop : c.getLsbD 15 = d.getLsbD 15 := by rw [← getLsbD_zero_crcShift, ← getLsbD_zero_crcShift, h]
  have hlow : c <<< 1 = d <<< 1 := by
    rw [crcShift_eq, crcShift_eq, htop] at h
    exact (BitVec.xor_left_inj _).1 h
  apply BitVec.eq_of_getLsbD_eq
  intro i hi
  rcases Nat.lt_succ_iff_lt_or_eq.1 hi with hi15 | rfl
  · simpa [hi, Nat.succ_lt_succ hi15] using congrArg (fun v => v.getLsbD (i + 1)) hlow
  · exact htop

theorem crcShifts_injective (n : Nat) : Function.Injective (crcShifts n) := by
  induction n with
  | zero => exact Function.injective_id
  | succ n ih => exact ih.comp crcShift_injective

theorem crcByte_left_injective (b : Byte) : Function.Injective (crcByte · b) :=
  fun _ _ h => (BitVec.xor_left_inj _).1 (crcShifts_injective 8 h)

/-- The byte enters whole in the register's high half. -/
theorem setWidth_shiftLeft_injective : Function.Injective fun b : Byte => b.setWidth 16 <<< 8 := by
  intro b c h
  apply BitVec.eq_of_getLsbD_eq
  intro i hi
  have hi16 : i + 8 < 16 := by omega
  simpa [hi16] using congrArg (fun v => v.getLsbD (i + 8)) h

theorem crcByte_injective (c : Half) : Function.Injective (crcByte c) :=
  fun _ _ h => setWidth_shiftLeft_injective ((BitVec.xor_right_inj _).1 (crcShifts_injective 8 h))

theorem foldl_crcByte_injective (d : List Byte) : Function.Injective (d.foldl crcByte) := by
  induction d with
  | nil => exact Function.injective_id
  | cons b d ih => exact ih.comp (crcByte_left_injective b)

theorem crc16_ne_of_byte_ne (inv : Bool) (a d : List Byte) {b c : Byte} (h : b ≠ c) (init : Half) :
    crc16 inv (a ++ b :: d) init ≠ crc16 inv (a ++ c :: d) init := by
  intro heq
  have hfold := crcComplement_injective inv heq
  rw [List.foldl_append, List.foldl_append] at hfold
  exact h (crcByte_injective _ (foldl_crcByte_injective d hfold))

/-! ## The sealed packet (R177) -/

theorem loByte_or_hiByte (v : Half) : (loByte v).setWidth 16 ||| (hiByte v).setWidth 16 <<< 8 = v := by
  apply BitVec.eq_of_getLsbD_eq
  intro i hi
  by_cases h8 : i < 8
  · simp [loByte, hiByte, hi, h8]
  · have hhigh : i - 8 < 8 := by omega
    have hback : 8 + (i - 8) = i := by omega
    simp [loByte, hiByte, hi, h8, hhigh, hback]

theorem le16_eq_of_byteAt {f : List Byte} {i : Nat} {v : Half} (hlo : byteAt f i = loByte v)
    (hhi : byteAt f (i + 1) = hiByte v) : le16 f i = v := by
  rw [le16, hlo, hhi, loByte_or_hiByte]

theorem decodeDeescaped_of_frameCrc {p : Params} {f : List Byte} (hlen : hdrLen ≤ f.length)
    (hcrc : le16 f 1 = frameCrc p f) :
    decodeDeescaped p f = .ok (byteAt f 0) (le16 f 1) (frameCrc p f) (le16 f 3) f.length (f.drop hdrLen) := by
  have hmin : minFrameLen ≤ hdrLen := by decide
  unfold decodeDeescaped
  rw [if_neg (by omega), if_neg (not_not.2 hcrc), if_neg (by omega)]

section
variable (p : Params) (t : Byte) (len : Half) (pl : List Byte)

/-- The CRC that `seal` fills in. -/
def sealCrc : Half := crc16 p.crcInvert (unsealed t len pl) crcInitArg

/-- Zeroing the CRC field gives back the packet the sender computed its CRC over. -/
theorem verificationCopy_sealPacket : verificationCopy (sealPacket p t len pl) = unsealed t len pl := rfl

theorem frameCrc_sealPacket : frameCrc p (sealPacket p t len pl) = sealCrc p t len pl := by
  rw [frameCrc, verificationCopy_sealPacket, sealCrc]

theorem decodeDeescaped_sealPacket :
    decodeDeescaped p (sealPacket p t len pl) =
      .ok t (sealCrc p t len pl) (sealCrc p t len pl) len (pl.length + 5) pl := by
  have hlength : (sealPacket p t len pl).length = pl.length + hdrLen := rfl
  have hcrc : le16 (sealPacket p t len pl) 1 = sealCrc p t len pl := le16_eq_of_byteAt rfl rfl
  have hlen : le16 (sealPacket p t len pl) 3 = len := le16_eq_of_byteAt rfl rfl
  rw [decodeDeescaped_of_frameCrc (hlength ▸ Nat.le_add_left ..) (hcrc.trans (frameCrc_sealPacket ..).symm), hcrc, hlen,
    frameCrc_sealPacket]
  rfl

end

/-! ## The obligations -/

/-- Settles O34: the difference's CRC register gives both sides of the first clause; the second is the engine's injectivity
in one byte. -/
theorem crcDetectsOneByteErrors : Obligations.CrcDetectsOneByteErrors := by
  refine ⟨fun inv x y x' y' hlen hlen' hxor => ?_, fun inv a d b c hne => crc16_ne_of_byte_ne inv a d hne _⟩
  rw [crc16_xor_crc16 inv hlen, crc16_xor_crc16 inv hlen', hxor]

/-- Settles O37: de-escaping gives the packet back, and its CRC field holds the CRC of its verification copy. -/
theorem sealedPacketIsAccepted : Obligations.SealedPacketIsAccepted := by
  intro p t len pl
  refine ⟨sealCrc p t len pl, ?_⟩
  have hraw : deescape p.escUnknownMode ((sealPacket p t len pl).flatMap escOf) = sealPacket p t len pl :=
    deescape_escBody _ _
  rw [decodeFrame, if_neg Bool.false_ne_true, hraw, decodeDeescaped_sealPacket]

/-- Settles O31: with no byte between them, the two complements cancel. -/
theorem crcOfEmptyIsZero : Obligations.CrcOfEmptyIsZero := crc16_nil true _

/-- Settles O33: the case of the inverting variant started from 0. -/
theorem crcChains : Obligations.CrcChains := fun a b => crc16_crc16 true a b _

end Sys2Proof.Machine

end

section
/-! PROOFS. The family of 44_decoder.md: the outcome of a completed frame (R190, R206), and TAKE (R203). -/

namespace Sys2Proof.Machine

open Sys2Proof.Config

/-! ## The rows of R206 -/

theorem decodeFrame_ovf (p : Params) (raw : List Byte) : decodeFrame p raw true = .frameTooLong := rfl

theorem decodeFrame_complete (p : Params) (raw : List Byte) :
    decodeFrame p raw false = decodeDeescaped p (deescape p.escUnknownMode raw) := rfl

section
variable {p : Params} {f : List Byte}

theorem decodeDeescaped_of_short (hlen : f.length < minFrameLen) : decodeDeescaped p f = .frameTooShort f.length :=
  if_pos hlen

theorem decodeDeescaped_of_frameCrc_ne (hlen : minFrameLen ≤ f.length) (hcrc : le16 f 1 ≠ frameCrc p f) :
    decodeDeescaped p f = .crcMismatch (le16 f 1) (frameCrc p f) f.length := by
  rw [decodeDeescaped, if_neg (Nat.not_lt.2 hlen), if_pos hcrc]

theorem decodeDeescaped_of_truncated (hlen : minFrameLen ≤ f.length) (hhdr : f.length < hdrLen)
    (hcrc : le16 f 1 = frameCrc p f) :
    decodeDeescaped p f = .headerTruncated (byteAt f 0) (le16 f 1) (frameCrc p f) f.length := by
  rw [decodeDeescaped, if_neg (Nat.not_lt.2 hlen), if_neg (not_not.2 hcrc), if_pos hhdr]

end

/-! ## TAKE (R203) -/

theorem State.takeResult_of_valid {s : State} (hv : s.res.valid = true) : s.takeResult = s.releaseResult := if_pos hv

theorem State.takeResult_of_not_valid {s : State} (hv : s.res.valid = false) : s.takeResult = s :=
  if_neg (Bool.eq_false_iff.1 hv)

theorem exec_take {s : State} (hr : s.resetDone = true) : exec .take s = .next s.takeResult := afterReset_after hr

/-- With no result waiting the hold of R120 is off. -/
theorem State.rxHeld_of_not_valid {s : State} (hv : s.res.valid = false) : s.rxHeld = false := by
  rw [State.rxHeld, hv, Bool.and_false]

/-! ## The obligations -/

/-- Settles O36: the overflow flag ends the decoding before the frame is looked at; without it each row is the answer of
one stage of R190 over the de-escaped frame, whose computed CRC is `c`. -/
theorem frameOutcomeTable : Obligations.FrameOutcomeTable := by
  rintro p raw f c rfl rfl
  rw [decodeFrame_complete]
  exact ⟨decodeFrame_ovf p raw, decodeDeescaped_of_short, decodeDeescaped_of_frameCrc_ne, decodeDeescaped_of_truncated,
    decodeDeescaped_of_frameCrc⟩

/-- Settles O40: the record TAKE leaves is the unspecified one with `valid` cleared, and a record that is not valid holds
nothing. -/
theorem takeReleasesResult : Obligations.TakeReleasesResult := by
  refine ⟨decodeWord_takeWord, fun s hr hv => ?_, fun s hr hv => ?_⟩
  · have htake : exec .take s = .next s.releaseResult := by rw [exec_take hr, State.takeResult_of_valid hv]
    exact ⟨Res.unspecified s.params s.draws false, s.draws + 1, htake, Res.unspecified_valid ..,
      State.rxHeld_of_not_valid rfl⟩
  · rw [exec_take hr, State.takeResult_of_not_valid hv]

end Sys2Proof.Machine

end

section
/-! PROOFS. The family of 60_exceptions.md: a bad frame leaves the framer as a good one does (R231). -/

namespace Sys2Proof.Machine

/-! ## The framer after a frame's end -/

/-- Where no DISCARD was running, only the mode and `eoc` start one; the record does not (R123). -/
theorem State.endFrame_framerState {s : State} (hd : s.discard = false) (eoc : Bool) :
    (s.endFrame eoc).framerState = if s.params.frameMode = .firstPerChunk ∧ eoc = false then .discard else .hunt := by
  rw [State.endFrame_eq, hd]
  by_cases hmode : s.params.frameMode = .firstPerChunk ∧ eoc = false
  · rw [if_pos hmode, if_pos hmode]
    exact (State.framerState_eq_discard_iff _).2 rfl
  · rw [if_neg hmode, if_neg hmode]
    exact (State.framerState_eq_hunt_iff _).2 ⟨rfl, rfl⟩

/-! ## END and then TAKE -/

theorem whenFree_of_not_valid {effect : State → State} {s : State} (hv : s.res.valid = false) :
    whenFree effect s = effect s := by
  rw [whenFree, State.rxHeld_of_not_valid hv, if_neg Bool.false_ne_true]

theorem bothInOrder_rxFrameEnd_take {s : State} (hv : s.res.valid = false) (eoc : Bool) :
    bothInOrder (.rxFrameEnd eoc) .take s = afterReset (fun _ => (s.endFrame eoc).takeResult) s := by
  have horder : bothInOrder (.rxFrameEnd eoc) .take s = afterReset (State.takeResult ∘ whenFree (State.endFrame eoc)) s :=
    bothInOrder_of_afterReset (fun _ => rfl) (fun _ => rfl) s
  simp only [horder, afterReset, Function.comp_apply, whenFree_of_not_valid hv]

/-- The frame reaches nothing but the record, and TAKE releases the record (R123, R203). -/
theorem State.takeResult_endFrame_forgets_frame (eoc : Bool) (s : State) (a : List Byte) (o : Bool) :
    (({ s with acc := a, ovf := o } : State).endFrame eoc).takeResult = (s.endFrame eoc).takeResult := by
  rw [State.takeResult_of_valid (State.endFrame_res eoc _).1, State.takeResult_of_valid (State.endFrame_res eoc _).1,
    State.endFrame_eq, State.endFrame_eq]
  rfl

/-! ## The obligation -/

/-- Settles O38: the status stands in the record alone, so the framer's fields come out the same for each; and after TAKE the
two answers are even equal. -/
theorem frameErrorsAreNonFatal : Obligations.FrameErrorsAreNonFatal := by
  refine ⟨fun eoc s hr hv hd => ⟨s.endFrame eoc, rxOp_enabled hr hv, ?_⟩, fun eoc s a o hv => answersAgree_of_eq ?_⟩
  · have hstate := State.endFrame_framerState hd eoc
    rw [State.endFrame_eq] at hstate ⊢
    exact ⟨rfl, rfl, rfl, hstate, rfl, rfl, rfl⟩
  · rw [bothInOrder_rxFrameEnd_take hv, bothInOrder_rxFrameEnd_take (s := { s with acc := a, ovf := o }) hv,
      State.takeResult_endFrame_forgets_frame eoc s a o]
    rfl

end Sys2Proof.Machine

end

section
/-! PROOFS. The family of 70_reset_and_hazards.md: RESET (R260), the time before the first RESET (R262), and the clean entry
state (R265). -/

namespace Sys2Proof.Machine

/-! ## RESET (R260) -/

theorem exec_reset (s : State) : exec .reset s = .next s.clear := rfl

@[simp] theorem State.clear_statusView (s : State) : s.clear.statusView = 0x00#8 := by simp [State.statusView]

/-- `tx_out` is the one element of the clean entry state that RESET does not write (R260, R265). -/
theorem cleanEntry_clear {s : State} (h : s.txOut = []) : cleanEntry s.clear :=
  ⟨rfl, rfl, rfl, rfl, rfl, rfl, rfl, h, s.clear_statusView⟩

theorem cleanEntry_resetWith (p : Config.Params) : cleanEntry (State.resetWith p) :=
  ⟨rfl, rfl, rfl, rfl, rfl, rfl, rfl, rfl, State.resetWith_statusView p⟩

/-! ## Before the first RESET (R262) -/

/-- The rows of the opcode map that are operations stand behind the guard of R262, all but RESET (R68). -/
theorem exec_beforeReset {s : State} {i : Instr} (hr : s.resetDone = false) (hop : i.isWindowCase = false)
    (hi : i ≠ .reset) : exec i s = .refused .beforeReset := by
  cases i with
  | rxHuntStart | rxHuntSkip | rxFrameEnd | rxFrameData | rxDiscardLast | rxDiscardDrop => exact rxOp_before hr
  | take | txdEnd | txdEsc | txdStart | txdLit | txe => exact afterReset_before hr
  | reset => exact absurd rfl hi
  | deEscEnd | deEscEsc | deEscStart | deEscBad | deEscTrail | deLit => cases hop

/-- Before the first RESET an RX is refused, not held: the result register holds no value yet (R262). -/
theorem held_beforeReset {s : State} (hr : s.resetDone = false) (i : Instr) : held i s = false := by
  rw [held, State.rxHeld, hr, Bool.false_and, Bool.and_false]

theorem step_beforeReset {s : State} {t : Turn} {ts : List Turn} {w : CmdWord} {rest : List CmdWord} {i : Instr}
    (hr : s.resetDone = false) (ht : s.turns = t :: ts) (hq : s.queue t = w :: rest)
    (hd : decodeWord s.framerState w = .ok i) (hi : i ≠ .reset) : step s = .refused .beforeReset := by
  rw [step_of_decoded ht hq hd (held_beforeReset hr i)]
  exact exec_beforeReset (by simpa using hr) (decodeWord_isOperation hd) hi

/-! ## The obligations -/

/-- Settles O42: the guard refuses the instruction, and an issued word reaches it because nothing is held before the first
RESET. -/
theorem onlyResetBeforeReset : Obligations.OnlyResetBeforeReset :=
  ⟨fun _ _ => exec_beforeReset, fun _ _ _ _ _ _ => step_beforeReset,
    fun s ⟨_, hout⟩ => ⟨s.clear, exec_reset s, cleanEntry_clear hout⟩⟩

/-- Settles O41: RESET has no guard, and its effect is `clear`. -/
theorem resetRestoresCleanState : Obligations.ResetRestoresCleanState :=
  ⟨decodeWord_resetWord, fun s => ⟨s.clear.res, s.clear.draws, s.clear, exec_reset s, rfl, rfl, s.clear_statusView⟩⟩

/-- Settles O43: at power-on `tx_out` is empty, which is the one value of the state after reset that RESET leaves alone. -/
theorem resetIsCleanEntry : Obligations.ResetIsCleanEntry := by
  refine ⟨fun p => ⟨cleanEntry_resetWith p, State.rxHeld_of_not_valid rfl⟩, ?_⟩
  rintro s ⟨-, hout⟩
  refine ⟨s.clear.res, s.clear.draws, ?_, rfl⟩
  rw [exec_reset, State.clear, hout]
  rfl

end Sys2Proof.Machine

end

section
/-! PROOFS. The statements of no one family: the encodings (R69 to R76), the shape of a frame (R108), the frames of the
instructions and of the step, the invariants (R25 to R27), the reception of a chunk (R120 to R128) and the single-stepped scan
(R150). -/

namespace Sys2Proof

open Sys2Proof.Machine

/-! ## The word of an instruction decodes to it (R69 to R72, R74, R76) -/

/-- A well-formed operand byte is none that an earlier row of its context takes, so the instruction's own row is the first. -/
theorem decode_encode {i : Instr} {ctx : FramerState} (hwf : i.wellFormed = true) (hctx : i.inContext ctx = true) :
    decode ctx (encode i) = .ok i := by
  cases i with
  | rxHuntStart eoc =>
    obtain rfl : ctx = .hunt := eq_of_inContext_of_context hctx rfl
    exact decodeWord_rxWord .hunt eoc startByte
  | rxHuntSkip eoc b =>
    obtain rfl : ctx = .hunt := eq_of_inContext_of_context hctx rfl
    have hb : b ≠ startByte := by simpa [Instr.wellFormed] using hwf
    exact (decodeWord_rxWord .hunt eoc b).trans (by rw [decodeRx, if_neg hb])
  | rxFrameEnd eoc =>
    obtain rfl : ctx = .frame := eq_of_inContext_of_context hctx rfl
    exact decodeWord_rxWord .frame eoc endByte
  | rxFrameData eoc b =>
    obtain rfl : ctx = .frame := eq_of_inContext_of_context hctx rfl
    have hb : b ≠ endByte := by simpa [Instr.wellFormed] using hwf
    exact (decodeWord_rxWord .frame eoc b).trans (by rw [decodeRx, if_neg hb])
  | rxDiscardLast b =>
    obtain rfl : ctx = .discard := eq_of_inContext_of_context hctx rfl
    exact decodeWord_rxWord .discard true b
  | rxDiscardDrop b =>
    obtain rfl : ctx = .discard := eq_of_inContext_of_context hctx rfl
    exact decodeWord_rxWord .discard false b
  | take => exact decodeWord_takeWord ctx
  | reset => exact decodeWord_resetWord ctx
  | txdEnd => exact decodeWord_txdWord ctx endByte
  | txdEsc => exact decodeWord_txdWord ctx escByte
  | txdStart => exact decodeWord_txdWord ctx startByte
  | txdLit b =>
    obtain ⟨⟨hend, hesc⟩, hstart⟩ : (b ≠ endByte ∧ b ≠ escByte) ∧ b ≠ startByte := by
      simpa [Instr.wellFormed, isReserved] using hwf
    exact (decodeWord_txdWord ctx b).trans (by rw [decodeTxd_of_unreserved hend hesc hstart])
  | txe => exact decodeWord_txeWord ctx
  | deEscEnd | deEscEsc | deEscStart | deEscTrail => rfl
  | deEscBad c =>
    obtain ⟨⟨hend, hesc⟩, hstart⟩ : (c ≠ escEnd ∧ c ≠ escEsc) ∧ c ≠ escStart := by
      simpa [Instr.wellFormed, isEscCode] using hwf
    exact congrArg _ (decodeWindow_window_esc_of_unknown hend hesc hstart)
  | deLit cur next =>
    have hcur : cur ≠ escByte := by simpa [Instr.wellFormed] using hwf
    exact congrArg _ (decodeWindow_window_of_ne hcur next)

/-! ## A decoded word is the word of what it decodes to (R69 to R74) -/

theorem encode_decodeRx (ctx : FramerState) (eoc : Bool) (b : Byte) :
    encode (decodeRx ctx eoc b) = .cmd (rxWord eoc b) := by
  cases ctx with
  | hunt => by_cases hb : b = startByte <;> simp [decodeRx, encode, rxWord, hb]
  | frame => by_cases hb : b = endByte <;> simp [decodeRx, encode, rxWord, hb]
  | discard => cases eoc <;> rfl

theorem decodeRx_wellFormed (ctx : FramerState) (eoc : Bool) (b : Byte) : (decodeRx ctx eoc b).wellFormed = true := by
  cases ctx with
  | hunt => by_cases hb : b = startByte <;> simp [decodeRx, Instr.wellFormed, hb]
  | frame => by_cases hb : b = endByte <;> simp [decodeRx, Instr.wellFormed, hb]
  | discard => cases eoc <;> rfl

theorem encode_decodeTxd (b : Byte) : encode (decodeTxd b) = .cmd (txdWord b) := by
  unfold decodeTxd
  split_ifs with hend hesc hstart
  · rw [hend]; rfl
  · rw [hesc]; rfl
  · rw [hstart]; rfl
  · rfl

theorem decodeTxd_wellFormed (b : Byte) : (decodeTxd b).wellFormed = true := by
  unfold decodeTxd
  split_ifs with hend hesc hstart
  · rfl
  · rfl
  · rfl
  · simp [Instr.wellFormed, isReserved, hend, hesc, hstart]

theorem encode_of_decodeWord {ctx : FramerState} {w : CmdWord} {i : Instr} (h : decodeWord ctx w = .ok i) :
    encode i = .cmd w ∧ i.wellFormed = true := by
  obtain ⟨eoc, b, rfl⟩ | ⟨e, b, rfl⟩ | ⟨b, rfl⟩ | ⟨b, rfl⟩ | ⟨e, b, rfl⟩ := cmdWord_cases w
  · rw [decodeWord_rxWord] at h
    cases h
    exact ⟨encode_decodeRx ctx eoc b, decodeRx_wellFormed ctx eoc b⟩
  · rw [decodeWord_ctlWord] at h
    split_ifs at h with htake hreset
    · cases h
      obtain ⟨rfl, rfl⟩ := htake
      exact ⟨rfl, rfl⟩
    · cases h
      obtain ⟨rfl, rfl⟩ := hreset
      exact ⟨rfl, rfl⟩
  · rw [decodeWord_txdWord] at h
    cases h
    exact ⟨encode_decodeTxd b, decodeTxd_wellFormed b⟩
  · rw [decodeWord_txBit8Word] at h
    split_ifs at h with hb
    cases h
    rw [hb]
    exact ⟨rfl, rfl⟩
  · rw [decodeWord_unusedGroup] at h
    cases h

/-! ## Windows by their fields (R76) -/

/-- A window from its fields; unlike `window` it reaches those with `u[8] = 0` and a byte in `u[7:0]`. -/
def windowOf (cur : Byte) (hasNext : Bool) (next : Byte) : Window := cur ++ BitVec.ofBool hasNext ++ next

@[simp] theorem winCur_windowOf (cur : Byte) (hasNext : Bool) (next : Byte) :
    winCur (windowOf cur hasNext next) = cur :=
  (BitVec.extractLsb'_append_eq_of_le (by decide)).trans BitVec.extractLsb'_append_eq_left

@[simp] theorem winHasNext_windowOf (cur : Byte) (hasNext : Bool) (next : Byte) :
    winHasNext (windowOf cur hasNext next) = hasNext := by
  rw [winHasNext, windowOf, getLsbD_window]
  simp

@[simp] theorem winNext_windowOf (cur : Byte) (hasNext : Bool) (next : Byte) :
    winNext (windowOf cur hasNext next) = next :=
  BitVec.extractLsb'_append_eq_right

theorem windowOf_fields (u : Window) : windowOf (winCur u) (winHasNext u) (winNext u) = u := by
  apply BitVec.eq_of_getLsbD_eq
  intro i hi
  rw [windowOf, getLsbD_window, winNext, winHasNext, winCur, BitVec.getLsbD_extractLsb', BitVec.getLsbD_extractLsb']
  split_ifs with hnext hbit
  · simp [hnext]
  · obtain rfl : i = 8 := by omega
    simp
  · have hcur : i - 8 - 1 < 8 := by omega
    have hback : 9 + (i - 8 - 1) = i := by omega
    simp [hcur, hback]

@[simp] theorem windowOf_inj (c c' : Byte) (e e' : Bool) (n n' : Byte) :
    windowOf c e n = windowOf c' e' n' ↔ c = c' ∧ e = e' ∧ n = n' := by
  refine ⟨fun h => ⟨?_, ?_, ?_⟩, fun ⟨hc, he, hn⟩ => by rw [hc, he, hn]⟩
  · simpa using congrArg winCur h
  · simpa using congrArg winHasNext h
  · simpa using congrArg winNext h

@[simp] theorem windowOf_and_windowOf (c c' : Byte) (e e' : Bool) (n n' : Byte) :
    windowOf c e n &&& windowOf c' e' n' = windowOf (c &&& c') (e && e') (n &&& n') := by
  simp only [windowOf, ← BitVec.ofBool_and_ofBool]
  rw [← BitVec.and_append, ← BitVec.and_append]

/-- The rows of R76 with match and mask cut into the fields of a window. -/
theorem windowRows_eq_fields : windowRows =
    [⟨14, none, windowOf escByte true escEnd, windowOf (.allOnes 8) true (.allOnes 8)⟩,
     ⟨15, none, windowOf escByte true escEsc, windowOf (.allOnes 8) true (.allOnes 8)⟩,
     ⟨16, none, windowOf escByte true escStart, windowOf (.allOnes 8) true (.allOnes 8)⟩,
     ⟨17, none, windowOf escByte true 0x00#8, windowOf (.allOnes 8) true 0x00#8⟩,
     ⟨18, none, windowOf escByte false 0x00#8, windowOf (.allOnes 8) true 0x00#8⟩,
     ⟨19, none, windowOf 0x00#8 false 0x00#8, windowOf 0x00#8 false 0x00#8⟩] := by
  decide

/-- The rows split by `cur`, then `u[8]`, then the byte that follows, which is the order of the decoder's tests. -/
theorem firstRow_windowRows (ctx : FramerState) (u : Window) :
    firstRow windowRows ctx u = some (decodeWindow u).row := by
  rw [windowRows_eq_fields, ← windowOf_fields u]
  generalize winCur u = cur, winHasNext u = hasNext, winNext u = next
  simp only [decodeWindow, apply_ite Instr.row, apply_ite some]
  by_cases hcur : cur = escByte
  · cases hasNext <;> simp [firstRow_cons, Row.applies, Instr.row, hcur]
  · simp [firstRow_cons, Row.applies, Instr.row, hcur]

end Sys2Proof

namespace Sys2Proof.Machine

open Sys2Proof.Config

/-! ## The packet types (R65) -/

theorem packetTypeOf_eq_none_of_unlisted {b : Byte} (h : b ∉ packetTypes.map Prod.fst) : packetTypeOf b = none := by
  rw [packetTypeOf, List.lookup_eq_none_iff]
  intro e he
  simpa using fun hb : b = e.1 => h (hb ▸ List.mem_map_of_mem he)

/-! ## The shape of a frame (R108) -/

theorem escOf_cases (b : Byte) :
    (∃ c, isEscCode c = true ∧ escOf b = [escByte, c]) ∨ isReserved b = false ∧ escOf b = [b] := by
  unfold escOf
  split_ifs with hend hesc hstart
  · exact .inl ⟨escEnd, by decide, rfl⟩
  · exact .inl ⟨escEsc, by decide, rfl⟩
  · exact .inl ⟨escStart, by decide, rfl⟩
  · exact .inr ⟨by simp [isReserved, hend, hesc, hstart], rfl⟩

theorem isEscCode_iff {c : Byte} : isEscCode c = true ↔ c = escEnd ∨ c = escEsc ∨ c = escStart := by
  simp [isEscCode, or_assoc]

theorem isReserved_of_isEscCode {c : Byte} (hc : isEscCode c = true) : isReserved c = false := by
  revert c
  decide

/-- Of the reserved bytes only ESC stands inside a frame. -/
theorem eq_escByte_of_mem_escBody {p : List Byte} {c : Byte} (hmem : c ∈ escBody p) (hc : isReserved c = true) :
    c = escByte := by
  obtain ⟨b, -, hb⟩ := List.mem_flatMap.1 hmem
  obtain ⟨code, hcode, heq⟩ | ⟨hfree, heq⟩ := escOf_cases b <;> rw [heq] at hb
  · obtain rfl | rfl : c = escByte ∨ c = code := by simpa using hb
    · rfl
    · simp [isReserved_of_isEscCode hcode] at hc
  · obtain rfl : c = b := by simpa using hb
    simp [hfree] at hc

/-- In a frame's escaped payload each ESC opens a pair, whose second byte is an escape code and so no ESC itself. -/
theorem escBody_escByte_followed {p : List Byte} {k : Nat} (h : (escBody p)[k]? = some escByte) :
    ∃ c, (escBody p)[k + 1]? = some c ∧ isEscCode c = true := by
  induction p generalizing k with
  | nil => cases h
  | cons b p ih =>
    have hcons : escBody (b :: p) = escOf b ++ escBody p := List.flatMap_cons
    rw [hcons] at h ⊢
    obtain ⟨c, hc, heq⟩ | ⟨hb, heq⟩ := escOf_cases b <;> rw [heq] at h ⊢
    · match k, h with
      | 0, _ => exact ⟨c, rfl, hc⟩
      | 1, h =>
        obtain rfl : c = escByte := by simpa using h
        exact absurd hc (by decide)
      | k + 2, h => exact ih h
    · match k, h with
      | 0, h =>
        obtain rfl : b = escByte := by simpa using h
        exact absurd hb (by decide)
      | k + 1, h => exact ih h

/-- After its START a frame is its escaped payload and then END. -/
theorem getElem?_succ_encodeFrame {p : List Byte} {k : Nat} {b : Byte} (h : (encodeFrame p)[k + 1]? = some b) :
    (escBody p)[k]? = some b ∨ k = (escBody p).length ∧ b = endByte := by
  have htail : (escBody p ++ [endByte])[k]? = some b := h
  rw [List.getElem?_append] at htail
  split at htail
  · exact .inl htail
  next hk =>
    obtain ⟨hlt, hb⟩ := List.getElem?_eq_some_iff.1 htail
    have hlast : k - (escBody p).length = 0 := Nat.lt_one_iff.1 hlt
    exact .inr ⟨by omega, by simpa using hb.symm⟩

theorem getElem?_encodeFrame_of_escBody {p : List Byte} {k : Nat} {b : Byte} (h : (escBody p)[k]? = some b) :
    (encodeFrame p)[k + 1]? = some b := by
  obtain ⟨hlt, -⟩ := List.getElem?_eq_some_iff.1 h
  exact (List.getElem?_append_left hlt).trans h

/-! ## The frame of an instruction -/

/-- No instruction writes the parameters or the agents' side; every other field may change. -/
theorem exec_frame {i : Instr} {s t : State} (h : exec i s = .next t) :
    t = { s with
      inFrame := t.inFrame, acc := t.acc, ovf := t.ovf, discard := t.discard, res := t.res, txOpen := t.txOpen,
      txOut := t.txOut, resetDone := t.resetDone, draws := t.draws, deRaw := t.deRaw, deOut := t.deOut } := by
  cases exec_next h with
  | held _ _ _ ht => rw [ht]
  | rx _ _ _ he => rw [he.eq]
  | take _ _ ht =>
    rw [ht]
    obtain he | he := s.takeResult_eq_or <;> rw [he]
    rfl
  | reset _ ht => rw [ht]; rfl
  | tx _ _ he => rw [he.eq.1]
  | window _ _ _ ht => rw [ht]; rfl

theorem exec_params {i : Instr} {s t : State} (h : exec i s = .next t) : t.params = s.params := by
  rw [exec_frame h]

theorem exec_queue {i : Instr} {s t : State} (h : exec i s = .next t) (p : Turn) : t.queue p = s.queue p := by
  rw [exec_frame h]
  cases p <;> rfl

theorem exec_eq_of_isRx {i : Instr} {s t : State} (hi : i.isRx = true) (h : exec i s = .next t) :
    t = { s with
      inFrame := t.inFrame, acc := t.acc, ovf := t.ovf, discard := t.discard, res := t.res, draws := t.draws } := by
  have hrow : i.row ≤ 6 := of_decide_eq_true hi
  cases exec_next h with
  | held _ _ _ ht => rw [ht]
  | rx _ _ _ he => exact he.eq
  | take hi' | reset hi' => subst hi'; cases hi
  | tx htx =>
    simp only [Instr.isTx, Bool.and_eq_true, decide_eq_true_eq] at htx
    omega
  | window _ _ hwin =>
    simp only [Instr.isWindowCase, decide_eq_true_eq] at hwin
    omega

theorem exec_eq_of_isTx {i : Instr} {s t : State} (hi : i.isTx = true) (h : exec i s = .next t) :
    t = { s with txOut := t.txOut, txOpen := t.txOpen } := by
  obtain ⟨bs, opened, hexec⟩ := exec_eq_transmit_of_isTx hi
  obtain ⟨-, rfl⟩ := afterReset_next_iff.1 ((hexec s).symm.trans h)
  rfl

/-! ## A waiting record (R51, R202, R238) -/

theorem exec_res_of_valid {i : Instr} {s t : State} (hv : s.res.valid = true) (h : exec i s = .next t) :
    t.res = s.res ∨ (i = .take ∨ i = .reset) ∧ t.res.valid = false := by
  cases exec_next h with
  | held _ _ _ ht => exact .inl (by rw [ht])
  | rx _ _ hfree _ => simp [hv] at hfree
  | take hi _ ht => exact .inr ⟨.inl hi, by rw [ht, State.takeResult_of_valid hv]; rfl⟩
  | reset hi ht => exact .inr ⟨.inr hi, by rw [ht]; rfl⟩
  | tx _ _ he => exact .inl (by rw [he.eq.1])
  | window _ _ _ ht => exact .inl (by rw [ht]; rfl)

/-! ## What a step does to the block -/

/-- A step is the wire sink's or nobody's and leaves the block's own fields but `tx_out`, or it runs an instruction that stands in
its context, from a state in which only the agents have moved. -/
theorem step_runs_exec {s t : State} (h : step s = .next t) :
    t = { s with turns := t.turns, txOut := t.txOut, wire := t.wire } ∨
    ∃ i u, i.inContext u.framerState = true ∧ exec i u = .next t ∧
      u = { s with
        producerQ := u.producerQ, consumerQ := u.consumerQ, clientQ := u.clientQ, turns := u.turns,
        taken := u.taken } := by
  obtain ⟨-, rfl⟩ | ⟨p, ts, -, ⟨-, hissue⟩ | ⟨-, rfl⟩ | ⟨-, hscan⟩⟩ := step_next h
  · exact .inl rfl
  · obtain ⟨-, rfl⟩ | ⟨w, rest, i, -, hd, ⟨-, rfl⟩ | ⟨-, he⟩⟩ := issue_next hissue
    · exact .inl rfl
    · exact .inl rfl
    · refine .inr ⟨i, _, ?_, he, ?_⟩
      · have hctx : ((s.dropTurn.recordRead i).setQueue p rest).framerState = s.dropTurn.framerState :=
          State.framerState_congr (by simp) (by simp)
        exact hctx ▸ decodeWord_inContext hd
      · rw [State.recordRead_eq]
        cases p <;> rfl
  · exact .inl rfl
  · obtain ⟨-, rfl⟩ | ⟨b, rest, -, he⟩ := scanStep_next hscan
    · exact .inl rfl
    · exact .inr ⟨_, _, decodeWindow_inContext _ _, he, rfl⟩

theorem step_params {s t : State} (h : step s = .next t) : t.params = s.params := by
  obtain ht | ⟨i, u, -, he, hu⟩ := step_runs_exec h
  · rw [ht]
  · rw [exec_params he, hu]

theorem step_res_of_valid {s t : State} (hv : s.res.valid = true) (h : step s = .next t) :
    t.res = s.res ∨ t.res.valid = false := by
  obtain ht | ⟨i, u, -, he, hu⟩ := step_runs_exec h
  · exact .inl (by rw [ht])
  · have hres : u.res = s.res := by rw [hu]
    rw [← hres] at hv ⊢
    exact (exec_res_of_valid hv he).imp_right And.right

/-! ## What a waiting record says of itself (R27, R199, R206) -/

theorem resultInv_of_unspecified {s : State} {k : Nat} (h : s.res = Res.unspecified s.params k false) :
    resultInv s := by
  simp [resultInv, h, Res.unspecified_flen_le]

theorem length_deescape_le (mode : EscUnknownMode) (raw : List Byte) : (deescape mode raw).length ≤ raw.length :=
  deescapeStream_eq_deescape mode raw ▸ length_deescapeStream_le mode false raw

/-- De-escaping never lengthens, so the bound of the accumulator bounds `flen`; each status has its own stage's tests. -/
theorem State.endFrame_resultInv {s : State} (hacc : s.acc.length ≤ s.params.maxRawLen) (eoc : Bool) :
    resultInv (s.endFrame eoc) := by
  have hblank : (Res.unspecified s.params s.draws true).flen ≤ s.params.maxRawLen := Res.unspecified_flen_le ..
  rw [State.endFrame_eq]
  cases hovf : s.ovf with
  | true => simpa [resultInv, decodeFrame_ovf, FrameOutcome.record] using hblank
  | false =>
    have hlen := (length_deescape_le s.params.escUnknownMode s.acc).trans hacc
    simp only [resultInv, decodeFrame_complete]
    generalize deescape s.params.escUnknownMode s.acc = f at hlen
    obtain ⟨hshort, heq⟩ | ⟨hmin, hcrc, heq⟩ | ⟨hmin, hhdr, hcrc, heq⟩ | ⟨hhdr, hcrc, heq⟩ :=
      decodeDeescaped_cases s.params f
    · rw [heq]
      simp [FrameOutcome.record, hlen, hshort]
    · rw [heq]
      simp [FrameOutcome.record, hlen, hmin, hcrc]
    · rw [heq]
      simp [FrameOutcome.record, hlen, hmin, hhdr, hcrc]
    · rw [heq]
      simp [FrameOutcome.record, hlen, hhdr, hcrc]

theorem RxEffect.keeps_resultInv {i : Instr} {s t : State} (h : RxEffect i s t) (hacc : s.acc.length ≤ s.params.maxRawLen)
    (hs : resultInv s) : resultInv t := by
  cases h with
  | frameEnd eoc => exact State.endFrame_resultInv hacc eoc
  | frameData eoc b => rw [State.storeByte_eq]; exact hs
  | huntStart | huntSkip | discardLast | discardDrop => exact hs

theorem exec_keeps_resultInv {i : Instr} {s t : State} (h : exec i s = .next t) (hs : blockSound s) :
    t.resetDone = true → resultInv t := by
  cases exec_next h with
  | held _ hr _ ht => exact fun _ => ht ▸ (hs hr).2
  | rx _ hr _ he =>
    obtain ⟨⟨-, -, -, hacc, -⟩, hres⟩ := hs hr
    exact fun _ => he.keeps_resultInv hacc hres
  | take _ hr ht =>
    rw [ht]
    obtain he | he := s.takeResult_eq_or <;> rw [he]
    · exact fun _ => resultInv_of_unspecified rfl
    · exact fun hr => (hs hr).2
  | reset _ ht => exact fun _ => ht ▸ resultInv_of_unspecified rfl
  | tx _ hr he =>
    rw [he.eq.1]
    exact fun _ => (hs hr).2
  | window _ _ _ ht =>
    rw [ht]
    exact fun hr => (hs hr).2

theorem step_keeps_blockSound {s t : State} (h : step s = .next t) (hs : blockSound s) : blockSound t := by
  intro hr
  refine ⟨step_keeps_framerSound h (fun hr => (hs hr).1) hr, ?_⟩
  obtain ht | ⟨i, u, -, he, hu⟩ := step_runs_exec h
  · rw [ht] at hr ⊢
    exact (hs hr).2
  · have hsound : blockSound u := by rw [hu]; exact hs
    exact exec_keeps_resultInv he hsound hr

theorem blockSound_resetWith (p : Params) : blockSound (State.resetWith p) := fun _ =>
  ⟨by simp [framerInv, State.resetWith], resultInv_of_unspecified rfl⟩

/-! ## Steps by whose turn it is -/

theorem State.dropTurn_of_cons {s : State} {t : Turn} {ts : List Turn} (ht : s.turns = t :: ts) :
    s.dropTurn = { s with turns := ts } := by
  rw [State.dropTurn, ht]
  rfl

theorem step_eq_move {s : State} {t : Turn} {ts : List Turn} (ht : s.turns = t :: ts) :
    step s = move t { s with turns := ts } := by
  rw [← State.dropTurn_of_cons ht]
  simp only [step, takeTurn, ht]

theorem step_of_no_turn {s : State} (ht : s.turns = []) : step s = .next s := by
  simp only [step, takeTurn, ht]

theorem step_of_empty_queue {s : State} {t : Turn} {ts : List Turn} (ht : s.turns = t :: ts)
    (hp : t = .producer ∨ t = .consumer ∨ t = .client) (hq : s.queue t = []) :
    step s = .next { s with turns := ts } := by
  have hmove : step s = issue t { s with turns := ts } := by
    rw [step_eq_move ht]
    rcases hp with rfl | rfl | rfl <;> rfl
  have hq' : ({ s with turns := ts } : State).queue t = [] := by
    rw [← State.dropTurn_of_cons ht, State.queue_dropTurn, hq]
  rw [hmove, issue, hq']

/-- A held word stays with its party, and only the turn passes (R120, R266). -/
theorem step_of_held {s : State} {t : Turn} {ts : List Turn} {w : CmdWord} {rest : List CmdWord} {i : Instr}
    (ht : s.turns = t :: ts) (hq : s.queue t = w :: rest) (hd : decodeWord s.framerState w = .ok i)
    (hh : held i s = true) : step s = .next { s with turns := ts } := by
  have hq' : s.dropTurn.queue t = w :: rest := by rw [State.queue_dropTurn, hq]
  have hd' : decodeWord s.dropTurn.framerState w = .ok i := hd
  have hh' : held i s.dropTurn = true := hh
  rw [step_eq_move ht, ← State.dropTurn_of_cons ht, move_eq_issue (by simp [hq'])]
  simp only [issue, hq', hd', hh', if_true]

theorem step_of_sink {s : State} {ts : List Turn} (ht : s.turns = .wireSink :: ts) :
    step s = .next ({ s with turns := ts } : State).sinkByte := step_eq_move ht

theorem step_of_scan {s : State} {ts : List Turn} {b : Byte} {rest : List Byte} (ht : s.turns = .deescaper :: ts)
    (hraw : s.deRaw = b :: rest) :
    step s = exec (decodeWindow (window b rest.head?)) { s with turns := ts } := by
  rw [step_eq_move ht]
  simp only [move, scanStep, hraw, scanWindow_cons]

theorem step_of_scan_done {s : State} {ts : List Turn} (ht : s.turns = .deescaper :: ts) (hraw : s.deRaw = []) :
    step s = .next { s with turns := ts } := by
  rw [step_eq_move ht]
  simp only [move, scanStep, hraw, scanWindow]

/-! ## The words a step consumes -/

theorem State.queue_setQueue {s : State} {t : Turn} (hq : s.queue t ≠ []) (q : List CmdWord) (p : Turn) :
    (s.setQueue t q).queue p = if p = t then q else s.queue p := by
  cases t with
  | producer | consumer | client => cases p <;> rfl
  | wireSink | deescaper => exact absurd rfl hq

theorem State.queue_recordRead (s : State) (i : Instr) (p : Turn) : (s.recordRead i).queue p = s.queue p := by
  rw [State.recordRead_eq]
  cases p <;> rfl

/-- A step that runs a word takes it from its party's list, and no other list and no other turn. -/
theorem step_queue {s u : State} {t : Turn} {ts : List Turn} {w : CmdWord} {rest : List CmdWord} {i : Instr}
    (ht : s.turns = t :: ts) (hq : s.queue t = w :: rest) (hd : decodeWord s.framerState w = .ok i)
    (hh : held i s = false) (h : step s = .next u) :
    (∀ p, u.queue p = if p = t then rest else s.queue p) ∧ u.turns = ts := by
  rw [step_of_decoded ht hq hd hh] at h
  have hne : (s.dropTurn.recordRead i).queue t ≠ [] := by
    simp [State.queue_recordRead, hq]
  refine ⟨fun p => ?_, ?_⟩
  · rw [exec_queue h, State.queue_setQueue hne, State.queue_recordRead, State.queue_dropTurn]
  · rw [exec_frame h]
    simp [State.dropTurn, ht]

/-! ## The hold of an RX (R120) -/

theorem toNat_rxWord (eoc : Bool) (b : Byte) : (rxWord eoc b).toNat = (if eoc then 256 else 0) + b.toNat := by
  rw [rxWord, toNat_cmdWord]
  cases eoc <;> simp

/-- The row of a received byte, in the order of the tests of R120. -/
theorem decodeRx_framerState (s : State) (eoc : Bool) (b : Byte) :
    decodeRx s.framerState eoc b =
      if s.discard then (if eoc then .rxDiscardLast b else .rxDiscardDrop b)
      else if s.inFrame then (if b = endByte then .rxFrameEnd eoc else .rxFrameData eoc b)
      else (if b = startByte then .rxHuntStart eoc else .rxHuntSkip eoc b) := by
  unfold State.framerState
  cases s.discard <;> cases s.inFrame <;> rfl

theorem exec_of_isRx_held {i : Instr} {s : State} (hi : i.isRx = true) (hr : s.resetDone = true)
    (hv : s.res.valid = true) : exec i s = .next s := by
  cases i with
  | rxHuntStart | rxHuntSkip | rxFrameEnd | rxFrameData | rxDiscardLast | rxDiscardDrop => exact rxOp_held hr hv
  | take | reset | txdEnd | txdEsc | txdStart | txdLit | txe
  | deEscEnd | deEscEsc | deEscStart | deEscBad | deEscTrail | deLit => cases hi

theorem held_of_isRx {i : Instr} {s : State} (hi : i.isRx = true) (hr : s.resetDone = true)
    (hv : s.res.valid = true) : held i s = true := by
  rw [held, State.rxHeld, hi, hr, hv]
  rfl

/-! ## The reception of a word in FIRST_PER_CHUNK and in DISCARD (R125, R128) -/

theorem receiveWords_cons_some {w : CmdWord} {ws : List CmdWord} {s u : State} {rs : List Res}
    (h : receiveWords (w :: ws) s = some (u, rs)) :
    ∃ t first more, receiveWord w s = some (t, first) ∧ receiveWords ws t = some (u, more) ∧ rs = first ++ more := by
  simp only [receiveWords] at h
  split at h
  · cases h
  next t first hw =>
    split at h
    · cases h
    next u' more hws =>
      cases h
      exact ⟨t, first, more, hw, hws, rfl⟩

/-- Only the end of a frame produces a result (R123). -/
theorem State.receiveByte_eq_endFrame {ctx : FramerState} {eoc : Bool} {b : Byte} {s : State}
    (hfree : s.res.valid = false) (hv : (s.receiveByte ctx eoc b).res.valid = true) :
    s.receiveByte ctx eoc b = s.endFrame eoc := by
  cases ctx with
  | hunt =>
    by_cases hb : b = startByte <;> simp [State.receiveByte, hb, hfree] at hv
  | frame =>
    by_cases hb : b = endByte
    · rw [State.receiveByte, if_pos hb]
    · simp [State.receiveByte, hb, State.storeByte_eq, hfree] at hv
  | discard => cases eoc <;> simp [State.receiveByte, hfree] at hv

section
variable {s : State} (hr : s.resetDone = true) (hv : s.res.valid = false)
include hr hv

theorem exec_decodeRx_enabled (ctx : FramerState) (eoc : Bool) (b : Byte) :
    exec (decodeRx ctx eoc b) s = .next (s.receiveByte ctx eoc b) := by
  rw [exec_decodeRx, rxOp_enabled hr hv]

/-- What a byte's reception leaves: the block ready for the next byte, and no result or that of a frame that ended. -/
theorem receiveWord_rxWord_some {u : State} {rs : List Res} {eoc : Bool} {b : Byte}
    (h : receiveWord (rxWord eoc b) s = some (u, rs)) :
    u.resetDone = true ∧ u.res.valid = false ∧ u.params = s.params ∧
      (rs = [] ∨ (∃ r, rs = [r]) ∧ u = (s.endFrame eoc).releaseResult) := by
  have hexec := exec_decodeRx_enabled hr hv s.framerState eoc b
  have hreset := exec_keeps_resetDone hexec hr
  have hparams := exec_params hexec
  rw [receiveWord_rxWord hr hv] at h
  obtain ⟨hfree, rfl, rfl⟩ | ⟨hvalid, rfl, rfl⟩ := takeProduced_some h
  · exact ⟨hreset, hfree, hparams, .inl rfl⟩
  · refine ⟨hreset, rfl, hparams, .inr ⟨⟨_, rfl⟩, ?_⟩⟩
    rw [State.receiveByte_eq_endFrame hv hvalid]

theorem receiveWord_of_discard (hd : s.discard = true) (eoc : Bool) (b : Byte) :
    receiveWord (rxWord eoc b) s = some (if eoc then s.setDiscard false else s, []) := by
  have hctx : s.framerState = .discard := s.framerState_eq_discard_iff.2 hd
  rw [receiveWord_rxWord hr hv, hctx]
  cases eoc <;> exact takeProduced_of_not_valid hv

theorem receiveWords_of_discard (hd : s.discard = true) (bs : List Byte) :
    receiveWords (rxWords false bs) s = some (s, []) := by
  induction bs with
  | nil => rfl
  | cons b bs ih => cases bs with
    | nil => exact receiveWords_cons (receiveWord_of_discard hr hv hd false b) rfl
    | cons c bs => exact receiveWords_cons (receiveWord_of_discard hr hv hd false b) ih

/-- In DISCARD the rest of the chunk gives no result, its last byte included (R125, R126). -/
theorem receiveWords_chunk_of_discard (hd : s.discard = true) (bs : List Byte) :
    ∃ u, receiveWords (rxWords true bs) s = some (u, []) := by
  obtain rfl | ⟨front, b, rfl⟩ := bs.eq_nil_or_concat
  · exact ⟨s, rfl⟩
  · rw [List.concat_eq_append, rxWords_append_singleton]
    exact ⟨_, receiveWords_append (receiveWords_of_discard hr hv hd front)
      (receiveWords_cons (receiveWord_of_discard hr hv hd true b) rfl)⟩

/-- A frame that ends before its chunk does starts DISCARD, which lasts for the rest of the chunk. -/
theorem length_receiveWords_chunk_le_one (hmode : s.params.frameMode = .firstPerChunk) {bs : List Byte} {u : State}
    {rs : List Res} (h : receiveWords (rxWords true bs) s = some (u, rs)) : rs.length ≤ 1 := by
  induction bs generalizing s rs with
  | nil => cases h; exact Nat.zero_le 1
  | cons b bs ih => cases bs with
    | nil =>
      obtain ⟨t, first, more, hfirst, hmore, rfl⟩ := receiveWords_cons_some h
      cases hmore
      obtain ⟨-, -, -, rfl | ⟨⟨r, rfl⟩, -⟩⟩ := receiveWord_rxWord_some hr hv hfirst <;> simp
    | cons c bs =>
      obtain ⟨t, first, more, hfirst, hmore, rfl⟩ := receiveWords_cons_some h
      obtain ⟨hr', hv', hparams, rfl | ⟨⟨r, rfl⟩, ht⟩⟩ := receiveWord_rxWord_some hr hv hfirst
      · exact ih hr' hv' (by rw [hparams, hmode]) hmore
      · have hd : t.discard = true := by
          rw [ht, State.endFrame_eq]
          simp [hmode]
        obtain ⟨u', hnone⟩ := receiveWords_chunk_of_discard hr' hv' hd (c :: bs)
        rw [hnone] at hmore
        cases hmore
        simp

end

/-- A result that waits is taken before the word, which is then received as if none had waited (R128). -/
theorem receiveWord_takeResult {s : State} (hr : s.resetDone = true) (w : CmdWord) :
    receiveWord w s = receiveWord w s.takeResult := by
  cases hv : s.res.valid with
  | false => rw [State.takeResult_of_not_valid hv]
  | true =>
    have hheld : s.rxHeld = true := by rw [State.rxHeld, hr, hv]; rfl
    have hwait : takeWaiting s = .next s.releaseResult := by
      rw [takeWaiting, if_pos hheld, exec_take hr, State.takeResult_of_valid hv]
    have hwait' : takeWaiting s.releaseResult = .next s.releaseResult := by
      rw [takeWaiting, State.rxHeld_of_not_valid rfl, if_neg Bool.false_ne_true]
    have hctx : s.releaseResult.framerState = s.framerState := rfl
    rw [State.takeResult_of_valid hv]
    simp only [receiveWord, hwait, hwait', hctx]

theorem receiveWord_some_resetDone {s u : State} {rs : List Res} {eoc : Bool} {b : Byte}
    (h : receiveWord (rxWord eoc b) s = some (u, rs)) : s.resetDone = true := by
  obtain ⟨i, free, t, hd, hwait, hexec, -⟩ := receiveWord_some h
  obtain rfl : decodeRx s.framerState eoc b = i := by simpa using hd
  rw [exec_decodeRx] at hexec
  obtain ⟨hr, -⟩ := rxOp_next_iff.1 hexec
  obtain ⟨-, rfl⟩ | ⟨-, rfl⟩ := takeWaiting_next hwait <;> exact hr

theorem State.takeResult_valid (s : State) : s.takeResult.res.valid = false := by
  cases hv : s.res.valid with
  | false => rw [State.takeResult_of_not_valid hv, hv]
  | true => rw [State.takeResult_of_valid hv]; rfl

theorem rxWords_cons (last : Bool) (b : Byte) (bs : List Byte) :
    ∃ eoc ws, rxWords last (b :: bs) = rxWord eoc b :: ws := by
  cases bs <;> exact ⟨_, _, rfl⟩

theorem length_decodeIncremental_le_one {s t : State} {chunk : List Byte} {rs : List Res}
    (hmode : s.params.frameMode = .firstPerChunk) (h : decodeIncremental chunk s = some (t, rs)) : rs.length ≤ 1 := by
  cases chunk with
  | nil => cases h
  | cons b bs =>
    rw [decodeIncremental, if_neg (by simp)] at h
    obtain ⟨eoc, ws, hws⟩ := rxWords_cons true b bs
    obtain ⟨_, _, _, hfirst, -⟩ := receiveWords_cons_some (hws ▸ h)
    have hr : s.resetDone = true := receiveWord_some_resetDone hfirst
    have htaken : receiveWords (rxWords true (b :: bs)) s.takeResult = some (t, rs) := by
      rw [hws] at h ⊢
      rwa [receiveWords, ← receiveWord_takeResult hr]
    have htake : exec .take s = .next s.takeResult := exec_take hr
    exact length_receiveWords_chunk_le_one (exec_keeps_resetDone htake hr) s.takeResult_valid
      (by rw [exec_params htake, hmode]) htaken

/-! ## The scan, single-stepped (R150 to R156) -/

theorem decodeWindow_window_esc_escEnd : decodeWindow (window escByte (some escEnd)) = .deEscEnd := rfl

theorem decodeWindow_window_esc_escEsc : decodeWindow (window escByte (some escEsc)) = .deEscEsc := rfl

theorem decodeWindow_window_esc_escStart : decodeWindow (window escByte (some escStart)) = .deEscStart := rfl

/-- Each case outputs what the de-escaper gives for the bytes it consumes, and consumes at least one. -/
theorem exec_window_deescape {s : State} {b : Byte} {rest : List Byte} (hraw : s.deRaw = b :: rest) :
    ∃ output consumed, 0 < consumed ∧
      exec (decodeWindow (window b rest.head?)) s = .next (s.scanAdvance output consumed) ∧
      deescape s.params.escUnknownMode s.deRaw =
        output ++ deescape s.params.escUnknownMode (s.deRaw.drop consumed) := by
  rw [hraw]
  by_cases hb : b = escByte
  · subst hb
    cases rest with
    | nil => exact ⟨[], 1, Nat.one_pos, rfl, rfl⟩
    | cons c rest =>
      by_cases hend : c = escEnd
      · subst hend
        exact ⟨[endByte], 2, Nat.two_pos, congrArg (exec · s) decodeWindow_window_esc_escEnd,
          deescape_esc_escEnd _ rest⟩
      by_cases hesc : c = escEsc
      · subst hesc
        exact ⟨[escByte], 2, Nat.two_pos, congrArg (exec · s) decodeWindow_window_esc_escEsc,
          deescape_esc_escEsc _ rest⟩
      by_cases hstart : c = escStart
      · subst hstart
        exact ⟨[startByte], 2, Nat.two_pos, congrArg (exec · s) decodeWindow_window_esc_escStart,
          deescape_esc_escStart _ rest⟩
      rw [List.head?_cons, decodeWindow_window_esc_of_unknown hend hesc hstart,
        deescape_esc_of_unknown _ rest hend hesc hstart]
      refine ⟨[], badConsumed s.params.escUnknownMode, ?_, rfl, ?_⟩ <;> cases s.params.escUnknownMode
      · exact Nat.one_pos
      · exact Nat.two_pos
      · rfl
      · rfl
  · rw [decodeWindow_window_of_ne hb, deescape_cons_of_ne _ rest hb]
    exact ⟨[b], 1, Nat.one_pos, rfl, rfl⟩

/-- With turns to spare the scan reads all of its bytes, and then only passes turns. -/
theorem runSteps_scan {n : Nat} {s : State} {ts : List Turn} (hlen : s.deRaw.length ≤ n)
    (ht : s.turns = List.replicate n .deescaper ++ ts) :
    runSteps n s = .next { s with
      turns := ts, deRaw := [], deOut := s.deOut ++ deescape s.params.escUnknownMode s.deRaw } := by
  induction n generalizing s with
  | zero =>
    have hraw : s.deRaw = [] := List.eq_nil_of_length_eq_zero (Nat.le_zero.1 hlen)
    have hts : s.turns = ts := ht
    have hs : s = { s with turns := ts, deRaw := [] } := by rw [← hts, ← hraw]
    simp only [hraw, deescape, List.append_nil]
    exact congrArg _ hs
  | succ n ih =>
    have hturn : s.turns = .deescaper :: (List.replicate n .deescaper ++ ts) := ht
    cases hraw : s.deRaw with
    | nil =>
      rw [runSteps_succ_of_step (step_of_scan_done hturn hraw), ih (by simp [hraw]) rfl]
      simp [hraw]
    | cons b rest =>
      obtain ⟨output, consumed, hpos, hexec, hde⟩ :=
        exec_window_deescape (s := { s with turns := List.replicate n .deescaper ++ ts }) hraw
      have hstep := (step_of_scan hturn hraw).trans hexec
      rw [runSteps_succ_of_step hstep, ih ?_ rfl, ← hraw]
      · simp [State.scanAdvance, hde]
      · simp only [State.scanAdvance_deRaw, List.length_drop]
        omega

/-! ## The record and its fields (R44, R205) -/

theorem State.endFrame_res_sameSpecified {s u : State} (hacc : s.acc = u.acc) (hovf : s.ovf = u.ovf)
    (hparams : s.params = u.params) (eoc : Bool) : (s.endFrame eoc).res.sameSpecified (u.endFrame eoc).res := by
  rw [State.endFrame_eq, State.endFrame_eq, hacc, hovf, hparams]
  exact ⟨by simp, fun _ => ⟨by simp, fun f hf => FrameOutcome.record_agreeOn _ _ _ f (by simpa using hf)⟩⟩

theorem toNat_lowByte_or_highByte (lo hi : Byte) :
    (lo.setWidth 16 ||| hi.setWidth 16 <<< 8).toNat = lo.toNat + 256 * hi.toNat := by
  have hlo : lo.toNat < 2 ^ 8 := lo.isLt
  have hhi : hi.toNat < 2 ^ 8 := hi.isLt
  have hshift : (hi.setWidth 16 <<< 8).toNat = hi.toNat <<< 8 := by
    rw [BitVec.toNat_shiftLeft, BitVec.toNat_setWidth]
    simp only [Nat.shiftLeft_eq]
    omega
  rw [BitVec.toNat_or, hshift, BitVec.toNat_setWidth_of_le (by decide), Nat.or_comm,
    ← Nat.shiftLeft_add_eq_or_of_lt hlo, Nat.shiftLeft_eq]
  omega

/-! ## The obligations -/

/-- Settles O1: row by row, the word has the fields its row asks for and no earlier row takes its byte. -/
theorem decodeOfEncodeIsIdentity : Obligations.DecodeOfEncodeIsIdentity :=
  fun _ _ => decode_encode

/-- Settles O47: the invariants are kept by each row in its own framer state, so by every step. -/
theorem stepKeepsFramerInvariant : Obligations.StepKeepsFramerInvariant := fun _ _ hs h => step_keeps_framerSound h hs

/-- Settles O50: only the end of a frame makes a record wait, and the bound of the accumulator, one of the framer's invariants,
bounds its `flen`. -/
theorem stepKeepsResultInvariant : Obligations.StepKeepsResultInvariant := fun _ _ hs h => step_keeps_blockSound h hs

/-- Settles O2: for each kind of command word. -/
theorem encodeOfDecodeIsIdentity : Obligations.EncodeOfDecodeIsIdentity := fun _ _ _ h =>
  have ⟨hword, hwf⟩ := encode_of_decodeWord h
  ⟨hword, hwf, decodeWord_inContext h⟩

/-- Settles O4: the fields of a position's window, and the rows by those fields. -/
theorem windowDecoderFollowsMap : Obligations.WindowDecoderFollowsMap :=
  ⟨fun cur next => ⟨winCur_window cur next, winHasNext_window cur next, winNext_window cur next⟩, firstRow_windowRows⟩

/-- Settles O14: inside a frame no reserved byte but ESC stands, and each ESC there is the first of a pair. -/
theorem encodeShape : Obligations.EncodeShape := by
  intro p
  refine ⟨rfl, by rw [encodeFrame_eq_append]; exact List.getLast?_concat, fun k b h => ?_⟩
  cases k with
  | zero =>
    obtain rfl : startByte = b := by simpa [encodeFrame] using h
    exact ⟨fun _ => rfl, fun hb => absurd hb (by decide), fun hb => absurd hb (by decide)⟩
  | succ k =>
    obtain hbody | ⟨rfl, rfl⟩ := getElem?_succ_encodeFrame h
    · have hreserved : isReserved b = true → b = escByte := eq_escByte_of_mem_escBody (List.mem_of_getElem? hbody)
      refine ⟨?_, ?_, ?_⟩
      · rintro rfl
        exact absurd (hreserved (by decide)) (by decide)
      · rintro rfl
        exact absurd (hreserved (by decide)) (by decide)
      · rintro rfl
        obtain ⟨c, hnext, hc⟩ := escBody_escByte_followed hbody
        exact ⟨c, getElem?_encodeFrame_of_escBody hnext, isEscCode_iff.1 hc⟩
    · exact ⟨fun hb => absurd hb (by decide), fun _ => by simp [encodeFrame], fun hb => absurd hb (by decide)⟩

/-- Settles O21: the hold of R120, by word, by instruction and by step. -/
theorem rxHeldWhileResultWaits : Obligations.RxHeldWhileResultWaits := by
  refine ⟨fun s eoc b => ⟨toNat_rxWord eoc b, ?_⟩, fun _ _ => exec_of_isRx_held, fun s ts eoc b rest ht hq hr hv => ?_⟩
  · rw [decodeWord_rxWord, decodeRx_framerState]
    rfl
  · exact step_of_held ht hq (decodeWord_rxWord _ eoc b) (held_of_isRx (decodeRx_isRx _ eoc b) hr hv)

/-- Settles O23: the frame that gives the first result starts DISCARD, unless it ends the chunk. -/
theorem firstPerChunkGivesAtMostOne : Obligations.FirstPerChunkGivesAtMostOne :=
  fun _ _ _ _ hmode h => length_decodeIncremental_le_one hmode h

/-- Settles O28: the case of `runSteps_scan` with exactly as many turns as raw bytes. -/
theorem scanRunsDeescape : Obligations.ScanRunsDeescape := fun _ _ ht => ⟨_, runSteps_scan le_rfl ht, rfl⟩

/-- Settles O39: both records are those of one outcome, over different blanks. -/
theorem resultDependsOnlyOnFrame : Obligations.ResultDependsOnlyOnFrame := by
  intro eoc s u s' u' hacc hovf hparams hvs hvu hs hu
  obtain ⟨-, ⟨hv, -⟩ | ⟨-, rfl⟩⟩ := rxOp_next_iff.1 hs
  · simp [hvs] at hv
  obtain ⟨-, ⟨hv, -⟩ | ⟨-, rfl⟩⟩ := rxOp_next_iff.1 hu
  · simp [hvu] at hv
  exact State.endFrame_res_sameSpecified hacc hovf hparams eoc

/-- Settles O51: a step runs one instruction or none, and no instruction writes the parameters. -/
theorem parametersNeverChange : Obligations.ParametersNeverChange := fun _ _ => step_params

/-- Settles O52: a waiting record holds every RX, so the only writes left are those of TAKE and RESET. -/
theorem waitingResultIsKept : Obligations.WaitingResultIsKept := by
  refine ⟨fun i s t hv htake hreset h => ?_, fun s t => step_res_of_valid⟩
  obtain hres | ⟨hi | hi, -⟩ := exec_res_of_valid hv h
  · exact hres
  · exact absurd hi htake
  · exact absurd hi hreset

/-- Settles O54: a held RX changes nothing, and an enabled one writes the framer and the record. -/
theorem rxFrame : Obligations.RxFrame := fun _ _ _ => exec_eq_of_isRx

/-- Settles O55: every transmit row has the one form of `State.transmit`. -/
theorem txFrame : Obligations.TxFrame := fun _ _ _ => exec_eq_of_isTx

/-- Settles O56: the agents' fields are among those `exec_frame` leaves out. -/
theorem execLeavesAgentsAlone : Obligations.ExecLeavesAgentsAlone := by
  intro i s t h
  rw [exec_frame h]
  exact ⟨rfl, rfl, rfl, rfl, rfl, rfl⟩

/-- Settles O58: by induction on the bytes, each of which is dropped. -/
theorem discardLastsUntilChunkEnd : Obligations.DiscardLastsUntilChunkEnd :=
  fun bytes _ hr hv hd => receiveWords_of_discard hr hv hd bytes

/-- Settles O6: each word is evaluated. -/
theorem sampleWordsDecode : Obligations.SampleWordsDecode :=
  ⟨rfl, rfl, rfl, rfl, rfl, rfl, rfl, rfl, rfl, rfl, rfl, rfl, rfl⟩

/-- Settles O7: a code no entry of the list has is not found there; the listed codes are evaluated. -/
theorem packetTypesAreListed : Obligations.PacketTypesAreListed :=
  ⟨rfl, by decide, by decide, fun _ => packetTypeOf_eq_none_of_unlisted, by decide⟩

/-- Settles O9: status by status. -/
theorem statusCodesAreListed : Obligations.StatusCodesAreListed :=
  ⟨rfl, rfl, rfl, rfl, rfl, fun st => Nat.le_of_lt_succ (statusCode_lt st)⟩

/-- Settles O27: each row is one `scanAdvance`, by the output and the count of its rule. -/
theorem windowCasesComplete : Obligations.WindowCasesComplete := by
  intro s
  refine ⟨rfl, rfl, rfl, fun c => ?_, ?_, fun b n => rfl⟩
  · have hbad : badConsumed s.params.escUnknownMode = if s.params.escUnknownMode = .dropEsc then 1 else 2 := by
      cases s.params.escUnknownMode <;> rfl
    rw [← hbad]
    simp [exec, execDeEscBad, State.scanAdvance]
  · simp [exec, execDeEscTrail, State.scanAdvance]

/-- Settles O32: the engine is evaluated on the four inputs. -/
theorem crcCheckValues : Obligations.CrcCheckValues := by
  unfold Obligations.CrcCheckValues
  decide +kernel

/-- Settles O35: the low byte and the shifted high byte share no bit, so their disjunction is their sum. -/
theorem fieldsAreLittleEndian : Obligations.FieldsAreLittleEndian := fun _ _ => toNat_lowByte_or_highByte _ _

/-- Settles O44: the step of a word that decodes, and the one list that `setQueue` writes. -/
theorem stepRunsDecodedInstruction : Obligations.StepRunsDecodedInstruction := by
  refine ⟨fun s t ts w rest i ht hq hd hh => ?_,
    fun s q i => ⟨rfl, rfl, rfl, rfl, rfl, rfl, s.recordRead_eq i⟩,
    fun s u ts w rest i hd hh h => ⟨fun ht hq => ?_, fun ht hq => ?_, fun ht hq => ?_⟩⟩
  · rw [step_of_decoded ht hq hd hh, State.dropTurn_of_cons ht]
  all_goals
    obtain ⟨hqueue, hturns⟩ := step_queue ht hq hd hh h
  · exact ⟨hqueue .producer, hqueue .consumer, hqueue .client, hturns⟩
  · exact ⟨hqueue .consumer, hqueue .producer, hqueue .client, hturns⟩
  · exact ⟨hqueue .client, hqueue .producer, hqueue .consumer, hturns⟩

/-- Settles O45: by whose turn it is, and whether that party has anything to move. -/
theorem otherStepsAreTheAgents : Obligations.OtherStepsAreTheAgents := by
  refine ⟨fun _ => step_of_no_turn, fun _ _ _ => step_of_empty_queue, fun s ts b rest ht hout => ?_,
    fun s ts ht hout => ?_, fun _ _ _ _ => step_of_scan, fun _ _ => step_of_scan_done⟩
  · rw [step_of_sink ht, State.sinkByte, hout]
    rfl
  · rw [step_of_sink ht, State.sinkByte, hout]
    simp

/-- Settles O46: the record is noted before TAKE releases it. -/
theorem consumerGetsWaitingRecord : Obligations.ConsumerGetsWaitingRecord := by
  intro s ts rest ht hq hr hv
  have hstep : step s = exec .take ((s.dropTurn.recordRead .take).setQueue .consumer rest) :=
    step_of_decoded ht hq (decodeWord_takeWord _) rfl
  have htake := exec_take (s := (s.dropTurn.recordRead .take).setQueue .consumer rest) (by simpa using hr)
  rw [State.takeResult_of_valid (by simpa using hv)] at htake
  refine ⟨_, hstep.trans htake, ?_, rfl, rfl⟩
  simp [State.recordRead_eq, hv, State.setQueue]

/-- Settles O48: RESET's framer is idle, and its record waits for nobody. -/
theorem resetMeetsInvariants : Obligations.ResetMeetsInvariants := blockSound_resetWith

end Sys2Proof.Machine

end
